-- ==== Sys2Proof/Word.lean ====
section
/-! DEFINITION. The word widths of OCE-FSCAN: bytes of the frame format, 16-bit checksums and the
32-bit host registers (R7, R9, R35). -/

namespace Sys2Proof

/-- One byte of the byte source or of a frame header (R60, R81). -/
abbrev Byte := BitVec 8

/-- A 16-bit checksum quantity: ACC, the two checksum fields, CSUM_DATA (R20). -/
abbrev Half := BitVec 16

/-- A 32-bit host register or data-size field, `W_REG` = 32 (R7, R35). -/
abbrev Word := BitVec 32

end Sys2Proof
end

