-- ==== Sys2Proof/Config.lean ====
section
/-! DEFINITION. The implementation parameters of R7. One of them, `BASE_ADDR`, is left open by the
spec: it is an opaque constant here, so no proof can lean on its value. -/

namespace Sys2Proof.Config

/-- `SYNC`, the sync byte (R7). -/
def sync : Byte := 0xA5

/-- `SEED`, the seed of the checksum accumulator (R7, R24). -/
def seed : Half := 0xB58C

/-- `FAMILY_EXPECTED`, informative only: no rule compares HDR_FAMILY with it (R7, R125). -/
def familyExpected : Byte := 0x10

/-- The informative record-id set of R87, read as decimal; no rule enforces it (R125). -/
def informativeIds : List Byte := [21, 22, 23, 24, 26, 27, 28, 29, 30, 31, 160]

/-- The header size byte that selects the H10 format (R7, R84). -/
def size10 : Byte := 10

/-- The header size byte that selects the H12 format (R7, R84). -/
def size12 : Byte := 12

/-- `W_POS`, the width of stream positions, CURSOR and record offsets (R7). -/
def posWidth : Nat := 32

/-- The stream length bound 2^W_POS of R63. -/
def posBound : Nat := 2 ^ posWidth

/-- The page at which the register block sits on the host bus. The spec leaves BASE_ADDR OPEN, a
multiple of 0x100 (R7, R65): a free value, with no body. -/
opaque basePage : Nat

/-- `BASE_ADDR`, a multiple of 0x100 and otherwise free (R65). -/
def baseAddr : Nat := 0x100 * basePage

/-- The number of byte addresses the register block takes: offsets 0x00 to 0xFF (R35, R65). -/
def blockBytes : Nat := 0x100

end Sys2Proof.Config
end

