-- ==== Sys2Proof/Syntax.lean ====
section
/-! DEFINITION. The instructions of OCE-FSCAN in the sense of R3: the two frame header formats, the
five host commands and the five engine micro-operations, one constructor for each row of
spec/opcode_table.json. -/

namespace Sys2Proof

/-- The seven fields of a frame header, as the format tables of R81 and R82 list them. The data size
has the width of the HDR_DSIZE register, 32 bits; `WellFormed` says which values each format holds. -/
structure Header where
  /-- byte b0, "must equal 0xA5" -/
  sync   : Byte
  /-- byte b1, "must be 10 or 12" -/
  size   : Byte
  /-- byte b2, the record id, not enforced -/
  id     : Byte
  /-- byte b3, the family, not enforced -/
  family : Byte
  /-- the payload's length in bytes -/
  dsize  : Word
  /-- the payload checksum the header declares -/
  dcsum  : Half
  /-- the header checksum, parsed and not validated -/
  hcsum  : Half
deriving DecidableEq, Repr

/-- The instructions (R3), one constructor per row of the opcode table. -/
inductive Instr where
  /-- HDR10: a whole header of the 10-byte format (R81). -/
  | hdr10 (h : Header)
  /-- HDR12: a whole header of the 12-byte format (R82). -/
  | hdr12 (h : Header)
  /-- NOP: host command word 0 (R182). -/
  | nop
  /-- START: host command word 1 (R183). -/
  | start
  /-- CLEAR: host command word 2 (R184). -/
  | clear
  /-- CSUM_SEED: host command word 3 (R144). -/
  | csumSeed
  /-- CSUM_WORD: host command word 4 (R145). -/
  | csumWord
  /-- SEEK_STEP: the micro-operation of FSM code 1 (R110). -/
  | seekStep
  /-- HDR_STEP: the micro-operation of FSM code 2 (R120). -/
  | hdrStep
  /-- PAY_STEP: the micro-operation of FSM code 3 (R142). -/
  | payStep
  /-- VALIDATE: the micro-operation of FSM code 4 (R143). -/
  | validate
  /-- EMIT: the micro-operation of FSM code 5 (R161). -/
  | emit
deriving DecidableEq, Repr

end Sys2Proof
end

