-- ==== Sys2Proof/WellFormed.lean ====
section
/-! DEFINITION. Which terms of `Instr` are instructions: the literal fields and the data-size width
that the format tables R81 and R82 fix. Commands and micro-operations have no operand. -/

namespace Sys2Proof

/-- The fields an H10 header can hold: Sync and Header size literal, Data size 16 bits (R81). -/
def Header.wf10 (h : Header) : Bool :=
  h.sync == Config.sync && h.size == Config.size10 && decide (h.dsize.toNat < 2 ^ 16)

/-- The fields an H12 header can hold: Sync and Header size literal, Data size 32 bits (R82). -/
def Header.wf12 (h : Header) : Bool :=
  h.sync == Config.sync && h.size == Config.size12

/-- The well-formed instructions. -/
def Instr.wf : Instr → Bool
  | .hdr10 h => h.wf10
  | .hdr12 h => h.wf12
  | .nop => true
  | .start => true
  | .clear => true
  | .csumSeed => true
  | .csumWord => true
  | .seekStep => true
  | .hdrStep => true
  | .payStep => true
  | .validate => true
  | .emit => true

end Sys2Proof
end

