-- ==== Sys2Proof/Decode.lean ====
section
/-! DEFINITION. The three encoding domains of R80 (frame header bytes, command words, FSM codes), a
total decoder that rejects by name, and after it the encoder written from the same tables. -/

namespace Sys2Proof

/-- The three encodings OCE-FSCAN decodes or accepts (R80). -/
inductive Encoding where
  /-- bytes of the byte source, in stream order, beginning at a header (R81 to R88) -/
  | frame (bytes : List Byte)
  /-- the 32-bit word written to CMD (R89) -/
  | command (w : Word)
  /-- the 3-bit FSM state code (R92) -/
  | fsm (code : BitVec 3)
deriving DecidableEq, Repr

/-- Why an encoding stands for no instruction. -/
inductive Reject where
  /-- header byte 0 is not 0xA5 (R88, first row of the illegal patterns) -/
  | lostSync (b0 : Byte)
  /-- header byte 1 is neither 10 nor 12 (R88, second row) -/
  | invalidHeaderSize (b1 : Byte)
  /-- the bytes end inside the header (R120) -/
  | truncatedHeader
  /-- a command word that R90 does not list (R91) -/
  | illegalCommand (w : Word)
  /-- an FSM code that selects no micro-operation: 0, 6 and the unused 7 (R92) -/
  | noMicroOperation (code : BitVec 3)
deriving DecidableEq, Repr

/-- The 16-bit value of two bytes in stream order, little-endian (R66): R9's `{b1, b0}`. -/
def half (b0 b1 : Byte) : Half := b1 ++ b0

/-- The 32-bit value of four bytes in stream order, little-endian (R66, R85). -/
def word (b0 b1 b2 b3 : Byte) : Word := b3 ++ b2 ++ b1 ++ b0

/-- Byte `j` of a value, `v[8j+7 : 8j]` (R81). -/
def byteAt {w : Nat} (v : BitVec w) (j : Nat) : Byte := v.extractLsb' (8 * j) 8

/-- The fields after byte 1 of an H10 header (R81), and the bytes after the header. -/
def decodeH10 (b0 b1 : Byte) : List Byte → Except Reject (Instr × List Byte)
  | id :: fam :: d0 :: d1 :: c0 :: c1 :: h0 :: h1 :: rest =>
    .ok (.hdr10 ⟨b0, b1, id, fam, (half d0 d1).setWidth 32, half c0 c1, half h0 h1⟩, rest)
  | _ => .error .truncatedHeader

/-- The fields after byte 1 of an H12 header (R82), and the bytes after the header. -/
def decodeH12 (b0 b1 : Byte) : List Byte → Except Reject (Instr × List Byte)
  | id :: fam :: d0 :: d1 :: d2 :: d3 :: c0 :: c1 :: h0 :: h1 :: rest =>
    .ok (.hdr12 ⟨b0, b1, id, fam, word d0 d1 d2 d3, half c0 c1, half h0 h1⟩, rest)
  | _ => .error .truncatedHeader

/-- The header that begins a byte string, with the bytes that follow it. The tests come in the order
in which the decoder meets them (R88, R205): byte 0, then byte 1, then the length. -/
def decodeHeader : List Byte → Except Reject (Instr × List Byte)
  | [] => .error .truncatedHeader
  | b0 :: rest =>
    if b0 ≠ Config.sync then .error (.lostSync b0) else
    match rest with
    | [] => .error .truncatedHeader
    | b1 :: rest =>
      if b1 = Config.size10 then decodeH10 b0 b1 rest
      else if b1 = Config.size12 then decodeH12 b0 b1 rest
      else .error (.invalidHeaderSize b1)

/-- The command a word selects: it must equal one of R90's five values exactly (R90, R91). -/
def decodeCommand (w : Word) : Except Reject Instr :=
  if w = 0x00000000 then .ok .nop
  else if w = 0x00000001 then .ok .start
  else if w = 0x00000002 then .ok .clear
  else if w = 0x00000003 then .ok .csumSeed
  else if w = 0x00000004 then .ok .csumWord
  else .error (.illegalCommand w)

/-- The micro-operation an FSM code selects (R92). -/
def decodeFsm (code : BitVec 3) : Except Reject Instr :=
  if code = 1 then .ok .seekStep
  else if code = 2 then .ok .hdrStep
  else if code = 3 then .ok .payStep
  else if code = 4 then .ok .validate
  else if code = 5 then .ok .emit
  else .error (.noMicroOperation code)

/-- The decoder over all three domains; of a frame it reads the header that begins it. -/
def decode : Encoding → Except Reject Instr
  | .frame bytes => (decodeHeader bytes).map Prod.fst
  | .command w => decodeCommand w
  | .fsm code => decodeFsm code

/-! ### The encoder -/

/-- The ten bytes of an H10 header in stream order (R81). -/
def encodeH10 (h : Header) : List Byte :=
  [h.sync, h.size, h.id, h.family, byteAt h.dsize 0, byteAt h.dsize 1,
   byteAt h.dcsum 0, byteAt h.dcsum 1, byteAt h.hcsum 0, byteAt h.hcsum 1]

/-- The twelve bytes of an H12 header in stream order (R82). -/
def encodeH12 (h : Header) : List Byte :=
  [h.sync, h.size, h.id, h.family,
   byteAt h.dsize 0, byteAt h.dsize 1, byteAt h.dsize 2, byteAt h.dsize 3,
   byteAt h.dcsum 0, byteAt h.dcsum 1, byteAt h.hcsum 0, byteAt h.hcsum 1]

/-- The encoding of an instruction: header bytes (R81, R82), command word (R90), FSM code (R92). -/
def encode : Instr → Encoding
  | .hdr10 h => .frame (encodeH10 h)
  | .hdr12 h => .frame (encodeH12 h)
  | .nop => .command 0x00000000
  | .start => .command 0x00000001
  | .clear => .command 0x00000002
  | .csumSeed => .command 0x00000003
  | .csumWord => .command 0x00000004
  | .seekStep => .fsm 1
  | .hdrStep => .fsm 2
  | .payStep => .fsm 3
  | .validate => .fsm 4
  | .emit => .fsm 5

/-! ### The opcode table's numbering -/

/-- The `n` low bytes of a number, least significant first: the order in which the frame format
stores them (R66, R81). -/
def bytesOf : Nat → Nat → List Byte
  | 0, _ => []
  | n + 1, w => BitVec.ofNat 8 w :: bytesOf n (w / 256)

/-- The bytes of the longest header, 12 (R82). -/
def longestHeader : Nat := 12

/-- The encoding that `nbits` bits of the opcode table stand for. The table's three row formats have
different widths: FSM rows fit one byte (mask 0x7), CMD32 rows have 32 bits, FRAME_HDR rows give
the first header bytes, the bytes above them being zero. -/
def tableEncoding (nbits w : Nat) : Option Encoding :=
  if nbits ≤ 8 then (if w < 8 then some (.fsm (BitVec.ofNat 3 w)) else none)
  else if nbits = 32 then (if w < 2 ^ 32 then some (.command (BitVec.ofNat 32 w)) else none)
  else some (.frame (bytesOf longestHeader w))

/-- The instruction the decoder reads from a word of the opcode table. -/
def decodeTableWord (nbits w : Nat) : Option Instr :=
  match tableEncoding nbits w with
  | none => none
  | some e =>
    match decode e with
    | .ok i => some i
    | .error _ => none

end Sys2Proof
end

