-- ==== Sys2Proof/Machine/State.lean ====
section
/-! DEFINITION. The state of one OCE-FSCAN instance, field for field as R20 lists it, and beside it
what one deterministic step needs of the Host agent (R8): its pending turns and the values it read. -/

namespace Sys2Proof.Machine

/-- The values of the scan state register (R22). Code 7 is never written (R92), so the enumeration
has the seven that are. -/
inductive Fsm where
  | idle | seeking | decHdr | readPay | validating | emitting | stopped
deriving DecidableEq, Repr

/-- The six fatal errors (R201). -/
inductive FatalError where
  | noSyncFound | truncatedHeader | invalidHeaderSize | invalidParameter | sourceUnavailable
  | lostSync
deriving DecidableEq, Repr

/-- A record descriptor (R160). -/
structure Descriptor where
  /-- position of the first payload byte, 0-based -/
  offset : Nat
  /-- the header's data-size field -/
  length : Word
  /-- the record-type id -/
  id     : Byte
deriving DecidableEq, Repr

/-- The byte source: the finite byte string the host attached, or none (R60, R61). The address space
of positions 0 to L-1 is read-only and has no unlisted address, so the string itself is its one
canonical form (log 10). -/
abbrev Source := Option (List Byte)

/-- The named registers of the host register map (R35). -/
inductive Reg where
  | cmd | status | cfgFrom | cfgTo | cfgBy | csumAcc | csumData | cursor | recCount | resultCount
  | hdrInfo | hdrDsize | hdrCsums | payIdx | recSel | recOffset | recLength | recId
deriving DecidableEq, Repr

/-- Where a host access goes: a byte offset in the register block, or a byte address on the host bus,
where the block begins at the open BASE_ADDR (R65). -/
inductive Place where
  | offset (o : Nat)
  | bus (a : Nat)
deriving DecidableEq, Repr

/-- One turn of an execution (R71, R180): a step of the Engine, an action of the Host (R94), or the
platform's reset (R230). -/
inductive Turn where
  /-- one Engine step (R180) -/
  | engine
  /-- the Engine steps of one whole header with no host access between them (model's own, log 4) -/
  | engineHeader
  /-- a host read of `bytes` bytes (R94 `rd`) -/
  | read (p : Place) (bytes : Nat)
  /-- a host write of `bytes` bytes (R94 `wr`, `cmd`) -/
  | write (p : Place) (bytes : Nat) (v : Word)
  /-- SRC <- some bytes (R94 `attach`) -/
  | attach (bs : List Byte)
  /-- SRC <- none (R94 `detach`) -/
  | detach
  /-- poll STATUS until BUSY = 0 (R94 `wait`) -/
  | wait
  /-- a platform reset (R230) -/
  | reset
deriving DecidableEq, Repr

/-- The complete state of one OCE-FSCAN instance: exactly the elements of R20. -/
structure Scanner where
  /-- FSM, the scan state (R22) -/
  fsm         : Fsm
  /-- CURSOR, position of the next byte to read (R23) -/
  cursor      : Nat
  /-- ACC, the checksum accumulator (R24) -/
  acc         : Half
  /-- HDR_SYNC (R25) -/
  hdrSync     : Byte
  /-- HDR_SIZE (R25) -/
  hdrSize     : Byte
  /-- HDR_ID (R25) -/
  hdrId       : Byte
  /-- HDR_FAMILY (R25) -/
  hdrFamily   : Byte
  /-- HDR_DSIZE (R25) -/
  hdrDsize    : Word
  /-- HDR_DCSUM (R25) -/
  hdrDcsum    : Half
  /-- HDR_HCSUM (R25) -/
  hdrHcsum    : Half
  /-- HDR_IDX, header bytes consumed of the current frame (R26) -/
  hdrIdx      : BitVec 4
  /-- PAY_IDX, payload bytes consumed of the current frame (R27) -/
  payIdx      : Word
  /-- PAY_START, position of the first payload byte (R27) -/
  payStart    : Nat
  /-- REC_COUNT, records decoded in this scan (R28) -/
  recCount    : Word
  /-- RECORDS, the selected records in stream order (R29) -/
  records     : List Descriptor
  /-- CSUM_ERR (R30) -/
  csumErr     : Bool
  /-- TRUNC (R30) -/
  trunc       : Bool
  /-- CMD_ERR (R30) -/
  cmdErr      : Bool
  /-- RESULT_VALID (R31) -/
  resultValid : Bool
  /-- FATAL_CODE, 0 for none (R31, R201) -/
  fatalCode   : BitVec 4
  /-- SRC_OPEN (R32) -/
  srcOpen     : Bool
  /-- CFG_FROM (R33) -/
  cfgFrom     : Word
  /-- CFG_TO (R33) -/
  cfgTo       : Word
  /-- CFG_BY (R33) -/
  cfgBy       : Word
  /-- LAT_FROM (R33) -/
  latFrom     : Nat
  /-- LAT_TO (R33) -/
  latTo       : Nat
  /-- LAT_BY (R33) -/
  latBy       : Nat
  /-- CSUM_DATA (R34) -/
  csumData    : Half
  /-- REC_SEL (R34) -/
  recSel      : Word
  /-- SRC, the byte source the host attached (R60) -/
  src         : Source
deriving DecidableEq, Repr

/-- The state of the model: the instance of R20, and two fields of the model's own that hold the Host
agent's side of an execution (log 2, log 3). -/
structure State extends Scanner where
  /-- the turns still to be taken, first one first; which agent moves next is read here -/
  turns : List Turn
  /-- the values the host's reads have returned, oldest first -/
  reads : List Word
deriving DecidableEq, Repr

/-- Why the machine stops where the spec gives no next state. No state that a run from reset reaches
raises any of them. All are safe: the model stops where the spec says nothing (log 8). -/
inductive Fault where
  /-- raised by SEEK_STEP, HDR_STEP and PAY_STEP with SRC = none: `EOS` and `SrcRead` speak of the
  attached string only (R62), and a busy engine holds one (R32, R61). Safe. -/
  | noSourceHeld
  /-- raised by HDR_STEP where R123's table has no row: HDR_SIZE not 10 or 12 after byte 1, or
  HDR_IDX not below HDR_SIZE. Safe. -/
  | noHeaderField
  /-- raised by EMIT with LAT_BY = 0: `mod` is defined for a positive divisor only (R9, R162). Safe. -/
  | zeroStride
deriving DecidableEq, Repr

/-- Why the model gives no meaning to a move. -/
inductive Refusal where
  /-- raised by no arm: every instruction has its meaning. Safe. -/
  | notModelled (mnemonic : String)
  /-- raised by START with a byte source of 2^32 bytes or more (R63, R183). Safe. -/
  | streamTooLong
  /-- raised by a host access narrower than 32 bits or not at a multiple of 4 (R67). Safe. -/
  | notWholeWord
  /-- raised by a host access outside the register block (R65, log 7). Safe. -/
  | outsideBlock
  /-- raised by attach and detach while BUSY = 1: the host has no such move (R61, R236). Safe. -/
  | sourceHeld
deriving DecidableEq, Repr

/-- The outcome of a step of this machine. -/
abbrev Result := Host.Outcome State Fault Refusal

/-- The machine right after reset: every element at its value of R40. SRC is the host's and R40 gives
it no value; here no source is attached (log 1). -/
def State.reset : State where
  fsm := .idle
  cursor := 0
  acc := 0x0000
  hdrSync := 0x00
  hdrSize := 0x00
  hdrId := 0x00
  hdrFamily := 0x00
  hdrDsize := 0x00000000
  hdrDcsum := 0x0000
  hdrHcsum := 0x0000
  hdrIdx := 0
  payIdx := 0
  payStart := 0
  recCount := 0
  records := []
  csumErr := false
  trunc := false
  cmdErr := false
  resultValid := false
  fatalCode := 0
  srcOpen := false
  cfgFrom := 1
  cfgTo := 0
  cfgBy := 1
  latFrom := 1
  latTo := 0
  latBy := 1
  csumData := 0x0000
  recSel := 0
  src := none
  turns := []
  reads := []

end Sys2Proof.Machine
end

