-- ==== Sys2Proof/Machine/Flags.lean ====
section
/-! DEFINITION. The codes of FSM and FATAL_CODE, the derived flags BUSY and INTEGRITY, and the three
condition flags' setters. -/

namespace Sys2Proof.Machine

/-- The 3-bit code of a scan state (R22). -/
def fsmCode : Fsm → BitVec 3
  | .idle => 0
  | .seeking => 1
  | .decHdr => 2
  | .readPay => 3
  | .validating => 4
  | .emitting => 5
  | .stopped => 6

/-- The scan state a code stands for; code 7 is unused (R22, R92). -/
def fsmOfCode (c : BitVec 3) : Option Fsm :=
  if c = 0 then some .idle
  else if c = 1 then some .seeking
  else if c = 2 then some .decHdr
  else if c = 3 then some .readPay
  else if c = 4 then some .validating
  else if c = 5 then some .emitting
  else if c = 6 then some .stopped
  else none

/-- The number of a fatal error (R201). -/
def fatalNumber : FatalError → BitVec 4
  | .noSyncFound => 1
  | .truncatedHeader => 2
  | .invalidHeaderSize => 3
  | .invalidParameter => 4
  | .sourceUnavailable => 5
  | .lostSync => 6

/-- BUSY = (1 <= FSM <= 5) (R22). Not stored. -/
def busy (s : State) : Bool :=
  decide (1 ≤ (fsmCode s.fsm).toNat) && decide ((fsmCode s.fsm).toNat ≤ 5)

/-- INTEGRITY = CSUM_ERR or TRUNC (R30). Not stored. -/
def integrity (s : State) : Bool := s.csumErr || s.trunc

/-- CSUM_ERR <- 1 when ACC differs from HDR_DCSUM on any of its 16 bits; a match leaves the flag as
it was (R143). -/
def compareChecksum (s : State) : State :=
  if s.acc ≠ s.hdrDcsum then { s with csumErr := true } else s

/-- TRUNC <- 1 (R142). -/
def setTrunc (s : State) : State := { s with trunc := true }

/-- CMD_ERR <- 1 (R181, R185). -/
def setCmdErr (s : State) : State := { s with cmdErr := true }

end Sys2Proof.Machine
end

