-- ==== Sys2Proof/Machine/Operands.lean ====
section
/-! DEFINITION. Operand forms: which header field and byte lane a header byte belongs to (R123), the
payload byte's lane in the checksum word (R142), the checksum law (R140), the selection predicate
(R162), and where a host access goes (R35, R65, R67). -/

namespace Sys2Proof.Machine

/-! ### Header fields -/

/-- A header field after byte 1, with the byte lane of it that a header byte fills. -/
inductive HeaderLane where
  | id | family | dsize (lane : Nat) | dcsum (lane : Nat) | hcsum (lane : Nat)
deriving DecidableEq, Repr

/-- R123's column for S = 10. -/
def laneH10 (k : Nat) : Option HeaderLane :=
  if k = 2 then some .id
  else if k = 3 then some .family
  else if k = 4 then some (.dsize 0)
  else if k = 5 then some (.dsize 1)
  else if k = 6 then some (.dcsum 0)
  else if k = 7 then some (.dcsum 1)
  else if k = 8 then some (.hcsum 0)
  else if k = 9 then some (.hcsum 1)
  else none

/-- R123's column for S = 12. -/
def laneH12 (k : Nat) : Option HeaderLane :=
  if k = 2 then some .id
  else if k = 3 then some .family
  else if k = 4 then some (.dsize 0)
  else if k = 5 then some (.dsize 1)
  else if k = 6 then some (.dsize 2)
  else if k = 7 then some (.dsize 3)
  else if k = 8 then some (.dcsum 0)
  else if k = 9 then some (.dcsum 1)
  else if k = 10 then some (.hcsum 0)
  else if k = 11 then some (.hcsum 1)
  else none

/-- R123's table: the lane that header byte `k` of a header of size `size` fills. -/
def headerLane (size : Byte) (k : Nat) : Option HeaderLane :=
  if size = Config.size10 then laneH10 k
  else if size = Config.size12 then laneH12 k
  else none

/-- `v[8j+7 : 8j] <- b`; the other bits keep their value (R123). -/
def setByte {w : Nat} (v : BitVec w) (j : Nat) (b : Byte) : BitVec w :=
  (v &&& ~~~(BitVec.ofNat w 0xFF <<< (8 * j))) ||| (b.setWidth w <<< (8 * j))

/-- Write a header byte into its field's lane (R123). -/
def writeLane (l : HeaderLane) (b : Byte) (s : State) : State :=
  match l with
  | .id => { s with hdrId := b }
  | .family => { s with hdrFamily := b }
  | .dsize j => { s with hdrDsize := setByte s.hdrDsize j b }
  | .dcsum j => { s with hdrDcsum := setByte s.hdrDcsum j b }
  | .hcsum j => { s with hdrHcsum := setByte s.hdrHcsum j b }

/-! ### The payload checksum -/

/-- What payload byte number `i` adds to ACC: the byte in the low lane for an even number, in the
high lane for an odd one (R142). -/
def laneWord (i : Word) (b : Byte) : Half :=
  if i.getLsbD 0 then b ++ (0x00 : Byte) else b.setWidth 16

/-- The sum mod 2^16 of the little-endian words of a payload; the last byte of an odd-length payload
is a word with a zero high byte (R93, R140, R147). -/
def sumWords : List Byte → Half
  | [] => 0
  | [b] => b.setWidth 16
  | b0 :: b1 :: rest => half b0 b1 + sumWords rest

/-- `Checksum(p)`, the source's form of the law (R140). -/
def checksum (p : List Byte) : Half := Config.seed + sumWords p

/-! ### Selection -/

/-- `Selected(n)` for a positive stride (R162). -/
def selected (first stride n : Nat) : Bool :=
  decide (first ≤ n) && decide ((n - first) % stride = 0)

/-! ### Host accesses -/

/-- The offset of a register in the block (R35). -/
def regOffset : Reg → Nat
  | .cmd => 0x00
  | .status => 0x04
  | .cfgFrom => 0x08
  | .cfgTo => 0x0C
  | .cfgBy => 0x10
  | .csumAcc => 0x14
  | .csumData => 0x18
  | .cursor => 0x1C
  | .recCount => 0x20
  | .resultCount => 0x24
  | .hdrInfo => 0x28
  | .hdrDsize => 0x2C
  | .hdrCsums => 0x30
  | .payIdx => 0x34
  | .recSel => 0x38
  | .recOffset => 0x3C
  | .recLength => 0x40
  | .recId => 0x44

/-- The registers in the order of the map (R35). -/
def allRegs : List Reg :=
  [.cmd, .status, .cfgFrom, .cfgTo, .cfgBy, .csumAcc, .csumData, .cursor, .recCount, .resultCount,
   .hdrInfo, .hdrDsize, .hdrCsums, .payIdx, .recSel, .recOffset, .recLength, .recId]

/-- The register at an offset; none where the map reserves it (R35). -/
def regAt (o : Nat) : Option Reg := allRegs.find? (fun r => regOffset r == o)

/-- The offset a place names inside the block, if it is inside (R65). -/
def blockOffset : Place → Option Nat
  | .offset o => if o < Config.blockBytes then some o else none
  | .bus a =>
    if Config.baseAddr ≤ a ∧ a < Config.baseAddr + Config.blockBytes then
      some (a - Config.baseAddr)
    else none

/-- The offset a host access reaches: whole 32-bit words at multiples of 4, in the block (R37, R65,
R67). -/
def accessOffset (p : Place) (bytes : Nat) : Except Refusal Nat :=
  match blockOffset p with
  | none => .error .outsideBlock
  | some o => if bytes = 4 ∧ o % 4 = 0 then .ok o else .error .notWholeWord

end Sys2Proof.Machine
end

