-- ==== Sys2Proof/Machine/Ops.lean ====
section
/-! DEFINITION. The operations the meanings share: reading the byte source, the two stops (R202, R203:
this machine's only form of taking an exception), leaving STOPPED (R206) as the clearing that START
and CLEAR share, the completion of a header, the command interlock, and reset. -/

namespace Sys2Proof.Machine

/-! ### The byte source -/

/-- The byte at a position of the attached string, none at and beyond its end (R62). -/
def srcRead (bs : List Byte) (a : Nat) : Option Byte := bs[a]?

/-- `EOS(a)`: `a >= L` (R62). -/
def eos (bs : List Byte) (a : Nat) : Bool := decide (bs.length ≤ a)

/-- The shape of every reading micro-operation: test EOS(CURSOR) first, else read SrcRead(CURSOR) and
nothing else (R62). With no source attached there is no string to speak of. -/
def readAtCursor (s : State) (atEnd : Result) (onByte : Byte → Result) : Result :=
  match s.src with
  | none => .fault .noSourceHeld
  | some bs =>
    match srcRead bs s.cursor with
    | none => atEnd
    | some b => onByte b

/-- The byte the model reads at position `a` of a state's source: the read of one byte that frames
speak about (R62). -/
def sourceByte (s : State) (a : Nat) : Option Byte :=
  match s.src with
  | none => none
  | some bs => srcRead bs a

/-- `L`, the length of the attached string; a state with none attached has no positions (R60). -/
def sourceLength (s : State) : Nat :=
  match s.src with
  | none => 0
  | some bs => bs.length

/-- CURSOR <- CURSOR + 1, the forward seek (R62). -/
def seekForward (s : State) : State := { s with cursor := s.cursor + 1 }

/-! ### Stops -/

/-- `StopFatal(code)` (R202): no result, the source released, the diagnostics kept. -/
def stopFatal (e : FatalError) (s : State) : State :=
  { s with
    fatalCode := fatalNumber e
    resultValid := false
    records := []
    csumErr := false
    trunc := false
    srcOpen := false
    fsm := .stopped }

/-- `StopDone()` (R203): a result, the source released. -/
def stopDone (s : State) : State :=
  { s with
    resultValid := true
    fatalCode := 0
    srcOpen := false
    fsm := .stopped }

/-- The clearing that START and CLEAR share (R183, R184): records, counters, flags, outcome, cursor
and header registers. ACC, CFG_*, LAT_*, CSUM_DATA, REC_SEL, SRC_OPEN and SRC stay. -/
def clearScan (s : State) : State :=
  { s with
    records := []
    recCount := 0
    csumErr := false
    trunc := false
    cmdErr := false
    fatalCode := 0
    resultValid := false
    cursor := 0
    hdrIdx := 0
    payIdx := 0
    payStart := 0
    hdrSync := 0
    hdrSize := 0
    hdrId := 0
    hdrFamily := 0
    hdrDsize := 0
    hdrDcsum := 0
    hdrHcsum := 0 }

/-! ### Headers -/

/-- All seven header registers at once, from a header's fields (R123, the values after byte S-1). -/
def latchHeader (h : Header) (s : State) : State :=
  { s with
    hdrSync := h.sync
    hdrSize := h.size
    hdrId := h.id
    hdrFamily := h.family
    hdrDsize := h.dsize
    hdrDcsum := h.dcsum
    hdrHcsum := h.hcsum }

/-- Header completion (R124): ACC <- seed, PAY_IDX <- 0, PAY_START <- CURSOR, on to READ_PAY. CURSOR
is already past the header here. -/
def completeHeader (s : State) : State :=
  { s with acc := Config.seed, payIdx := 0, payStart := s.cursor, fsm := .readPay }

/-- ACC <- ACC +16 w (R146). -/
def addAcc (w : Half) (s : State) : State := { s with acc := s.acc + w }

/-! ### Commands -/

/-- The interlock of R181: a command other than NOP is rejected while BUSY = 1, sets CMD_ERR and
changes nothing else. -/
def unlessBusy (s : State) (command : State → Result) : Result :=
  if busy s then .next (setCmdErr s) else command s

/-- ILLEGAL (R185): a command word of no command sets CMD_ERR and changes nothing else, in any FSM
state. -/
def illegalCommand (s : State) : Result := .next (setCmdErr s)

/-! ### Reset -/

/-- A platform reset (R230): every element at its value of R40; SRC and the host's own turns and read
values stay. -/
def resetInstance (s : State) : State :=
  { State.reset with src := s.src, turns := s.turns, reads := s.reads }

end Sys2Proof.Machine
end

