-- ==== Sys2Proof/Machine/Checksum.lean ====
section
/-! DEFINITION. The Checksum Validator: its two micro-operations (R142, R143) and the two host
commands on the accumulator (R144, R145). -/

namespace Sys2Proof.Machine

/-- PAY_STEP (R142): the length test comes before the end-of-stream test. -/
def execPayStep (s : State) : Result :=
  if s.payIdx = s.hdrDsize then .next { s with fsm := .validating }
  else
    readAtCursor s (.next (stopDone (setTrunc s))) fun b =>
      .next { addAcc (laneWord s.payIdx b) (seekForward s) with payIdx := s.payIdx + 1 }

/-- VALIDATE (R143): a mismatch is recorded and the scan goes on. -/
def execValidate (s : State) : Result := .next { compareChecksum s with fsm := .emitting }

/-- CSUM_SEED (R144). -/
def execCsumSeed (s : State) : Result :=
  unlessBusy s fun s => .next { s with acc := Config.seed }

/-- CSUM_WORD (R145). -/
def execCsumWord (s : State) : Result :=
  unlessBusy s fun s => .next (addAcc s.csumData s)

end Sys2Proof.Machine
end

