-- ==== Sys2Proof/Machine/Control.lean ====
section
/-! DEFINITION. The host commands NOP, START and CLEAR (R182 to R184). -/

namespace Sys2Proof.Machine

/-- NOP (R182): no state changes, busy or not. -/
def execNop (s : State) : Result := .next s

/-- START with BUSY = 0 (R183). The checks stand in R205's order; a refused START is no step. -/
def startScan (s : State) : Result :=
  let c := clearScan s
  let f := s.cfgFrom.toInt
  let t := s.cfgTo.toInt
  let b := s.cfgBy.toInt
  if f < 0 ∨ t < 0 ∨ b < 0 then .next (stopFatal .invalidParameter c)
  else if f = 0 ∨ b = 0 then .next (stopFatal .invalidParameter c)
  else
    match s.src with
    | none => .next (stopFatal .sourceUnavailable c)
    | some bs =>
      if Config.posBound ≤ bs.length then .refused .streamTooLong
      else
        .next { c with
          latFrom := f.toNat
          latTo := t.toNat
          latBy := b.toNat
          srcOpen := true
          fsm := .seeking }

/-- START (R181, R183). -/
def execStart (s : State) : Result := unlessBusy s startScan

/-- CLEAR (R181, R184). -/
def execClear (s : State) : Result :=
  unlessBusy s fun s => .next { clearScan s with fsm := .idle }

end Sys2Proof.Machine
end

