-- ==== Sys2Proof/Machine/HeaderDecoder.lean ====
section
/-! DEFINITION. The Header Decoder: its micro-operation, one byte a step (R120 to R124), and the whole
headers of the two frame formats (R81, R82, R123). -/

namespace Sys2Proof.Machine

/-- HDR_BYTE0 (R121): clear the other header registers, latch the sync byte, check it. -/
def headerByte0 (b : Byte) (s : State) : State :=
  let s' := latchHeader ⟨b, 0, 0, 0, 0, 0, 0⟩ s
  if b ≠ Config.sync then stopFatal .lostSync s' else s'

/-- HDR_BYTE1 (R122): latch the header size, check it. -/
def headerByte1 (b : Byte) (s : State) : State :=
  let s' := { s with hdrSize := b }
  if b ≠ Config.size10 ∧ b ≠ Config.size12 then stopFatal .invalidHeaderSize s' else s'

/-- HDR_FIELD (R123) and, when byte `k` is the last of the header, its completion (R124). -/
def headerField (k : Nat) (b : Byte) (s : State) : Result :=
  match headerLane s.hdrSize k with
  | none => .fault .noHeaderField
  | some l =>
    let s' := writeLane l b s
    if k + 1 = s'.hdrSize.toNat then .next (completeHeader s') else .next s'

/-- The dispatch of R120 on the number `k` of header bytes consumed before this one; `s` has CURSOR
and HDR_IDX already advanced. -/
def headerByte (k : Nat) (b : Byte) (s : State) : Result :=
  if k = 0 then .next (headerByte0 b s)
  else if k = 1 then .next (headerByte1 b s)
  else headerField k b s

/-- HDR_STEP (R120). End of stream before byte 0 is the clean end; inside a header it is fatal. -/
def execHdrStep (s : State) : Result :=
  readAtCursor s
    (if s.hdrIdx = 0 then .next (stopDone s) else .next (stopFatal .truncatedHeader s))
    fun b => headerByte s.hdrIdx.toNat b { seekForward s with hdrIdx := s.hdrIdx + 1 }

/-- What a whole header of `n` bytes leaves (R123 after byte S-1, R124, R126): the fields latched,
CURSOR and HDR_IDX `n` further, the header complete. -/
def wholeHeader (n : Nat) (h : Header) (s : State) : Result :=
  .next (completeHeader
    (latchHeader h { s with cursor := s.cursor + n, hdrIdx := BitVec.ofNat 4 n }))

/-- HDR10: the effect of the ten HDR_STEPs over an H10 header (R81, R123, R124, R126). -/
def execHdr10 (h : Header) (s : State) : Result := wholeHeader 10 h s

/-- HDR12: the effect of the twelve HDR_STEPs over an H12 header (R82, R123, R124, R126). -/
def execHdr12 (h : Header) (s : State) : Result := wholeHeader 12 h s

end Sys2Proof.Machine
end

