-- ==== Sys2Proof/Machine/RecordIndex.lean ====
section
/-! DEFINITION. The Record Index Builder's micro-operation (R160 to R165). -/

namespace Sys2Proof.Machine

/-- The descriptor of the current frame (R160). -/
def currentRecord (s : State) : Descriptor := ⟨s.payStart, s.hdrDsize, s.hdrId⟩

/-- Append the current frame's descriptor if it is record number `n` and selected (R161, R162). -/
def appendSelected (n : Nat) (s : State) : State :=
  if selected s.latFrom s.latBy n then { s with records := s.records ++ [currentRecord s] } else s

/-- EMIT (R161): count the record, append it if selected, stop at the limit or go on to the next
header. The count `n` and its comparisons are exact (R9). -/
def execEmit (s : State) : Result :=
  if s.latBy = 0 then .fault .zeroStride
  else
    let n := s.recCount.toNat + 1
    let s' := appendSelected n { s with recCount := BitVec.ofNat 32 n }
    if s.latTo ≠ 0 ∧ n = s.latTo then .next (stopDone s')
    else .next { s' with hdrIdx := 0, fsm := .decHdr }

end Sys2Proof.Machine
end

