-- ==== Sys2Proof/Machine/Seek.lean ====
section
/-! DEFINITION. The Sync Locator's micro-operation (R110 to R113). -/

namespace Sys2Proof.Machine

/-- SEEK_STEP (R110): the byte at CURSOR is tested without being consumed, so the marker is still at
CURSOR when the header decoder takes over. -/
def execSeekStep (s : State) : Result :=
  readAtCursor s (.next (stopFatal .noSyncFound s)) fun b =>
    if b = Config.sync then .next { s with hdrIdx := 0, fsm := .decHdr }
    else .next (seekForward s)

end Sys2Proof.Machine
end

