-- ==== Sys2Proof/Machine/Dispatch.lean ====
section
/-! DEFINITION. One arm per instruction of the opcode table. -/

namespace Sys2Proof.Machine

def exec (i : Instr) (s : State) : Host.Outcome State Fault Refusal :=
  match i with
  -- frame header formats
  | .hdr10 h => Sys2Proof.Machine.execHdr10 h s
  | .hdr12 h => Sys2Proof.Machine.execHdr12 h s
  -- host commands
  | .nop => Sys2Proof.Machine.execNop s
  | .start => Sys2Proof.Machine.execStart s
  | .clear => Sys2Proof.Machine.execClear s
  | .csumSeed => Sys2Proof.Machine.execCsumSeed s
  | .csumWord => Sys2Proof.Machine.execCsumWord s
  -- engine micro-operations
  | .seekStep => Sys2Proof.Machine.execSeekStep s
  | .hdrStep => Sys2Proof.Machine.execHdrStep s
  | .payStep => Sys2Proof.Machine.execPayStep s
  | .validate => Sys2Proof.Machine.execValidate s
  | .emit => Sys2Proof.Machine.execEmit s

end Sys2Proof.Machine
end

