-- ==== Sys2Proof/Machine/Registers.lean ====
section
/-! DEFINITION. The host register map: what each register reads as, and what a write stores (R35 to
R38). -/

namespace Sys2Proof.Machine

/-- The STATUS word, its fields from bit 31 down to bit 0 (R36). -/
def statusWord (s : State) : Word :=
  (0 : BitVec 12) ++ s.hdrIdx ++ s.fatalCode ++ (0 : BitVec 2) ++ BitVec.ofBool s.srcOpen ++
    BitVec.ofBool s.cmdErr ++ BitVec.ofBool s.trunc ++ BitVec.ofBool s.csumErr ++
    BitVec.ofBool (integrity s) ++ BitVec.ofBool s.resultValid ++ BitVec.ofBool (busy s) ++
    fsmCode s.fsm

/-- The record the readout shows: element REC_SEL of RECORDS, only while a result is valid (R38). -/
def shownRecord (s : State) : Option Descriptor :=
  if s.resultValid then s.records[s.recSel.toNat]? else none

/-- The three readout registers read 0 where no record is shown (R38). -/
def readRecord (f : Descriptor → Word) (s : State) : Word :=
  match shownRecord s with
  | some r => f r
  | none => 0

/-- The value a register reads as (R35). CMD reads as 0 (R37). -/
def readReg (r : Reg) (s : State) : Word :=
  match r with
  | .cmd => 0
  | .status => statusWord s
  | .cfgFrom => s.cfgFrom
  | .cfgTo => s.cfgTo
  | .cfgBy => s.cfgBy
  | .csumAcc => s.acc.setWidth 32
  | .csumData => s.csumData.setWidth 32
  | .cursor => BitVec.ofNat 32 s.cursor
  | .recCount => s.recCount
  | .resultCount => BitVec.ofNat 32 s.records.length
  | .hdrInfo => s.hdrFamily ++ s.hdrId ++ s.hdrSize ++ s.hdrSync
  | .hdrDsize => s.hdrDsize
  | .hdrCsums => s.hdrHcsum ++ s.hdrDcsum
  | .payIdx => s.payIdx
  | .recSel => s.recSel
  | .recOffset => readRecord (fun r => BitVec.ofNat 32 r.offset) s
  | .recLength => readRecord (fun r => r.length) s
  | .recId => readRecord (fun r => r.id.setWidth 32) s

/-- The value at an offset of the block; a reserved offset reads as 0 (R35, R37). -/
def readOffset (o : Nat) (s : State) : Word :=
  match regAt o with
  | some r => readReg r s
  | none => 0

/-- What a write stores in a register other than CMD: the five read-write registers take the value in
any FSM state, a write to any other is ignored (R35, R37). -/
def storeReg (r : Reg) (v : Word) (s : State) : State :=
  match r with
  | .cfgFrom => { s with cfgFrom := v }
  | .cfgTo => { s with cfgTo := v }
  | .cfgBy => { s with cfgBy := v }
  | .csumData => { s with csumData := v.setWidth 16 }
  | .recSel => { s with recSel := v }
  | .cmd => s
  | .status => s
  | .csumAcc => s
  | .cursor => s
  | .recCount => s
  | .resultCount => s
  | .hdrInfo => s
  | .hdrDsize => s
  | .hdrCsums => s
  | .payIdx => s
  | .recOffset => s
  | .recLength => s
  | .recId => s

end Sys2Proof.Machine
end

