-- ==== Sys2Proof/Machine/Turns.lean ====
section
/-! DEFINITION. The turns of the agents (R8, R71, R180): the Engine's step, the Host's register
accesses and source moves, the platform's reset, and where each takes its instruction from. -/

namespace Sys2Proof.Machine

/-! ### The Engine -/

/-- The micro-operation FSM selects (R22, R92); none in IDLE and STOPPED. -/
def microOperation (s : State) : Option Instr :=
  match decodeFsm (fsmCode s.fsm) with
  | .ok i => some i
  | .error _ => none

/-- One Engine step, enabled exactly when BUSY = 1 (R180); in IDLE and STOPPED the engine takes no
step and every element keeps its value (R187, R215). -/
def engineTurn (s : State) : Result :=
  match microOperation s with
  | some i => exec i s
  | none => .next s

/-- The whole header at CURSOR, when the header decoder is about to read its first byte (R88). -/
def headerAtCursor (s : State) : Option Instr :=
  if s.fsm = .decHdr ∧ s.hdrIdx = 0 then
    match s.src with
    | none => none
    | some bs =>
      match decodeHeader (bs.drop s.cursor) with
      | .ok (i, _) => some i
      | .error _ => none
  else none

/-- The HDR_STEPs of one whole header with no host access between them; one Engine step where no whole
header stands at CURSOR (log 4). -/
def engineHeaderTurn (s : State) : Result :=
  match headerAtCursor s with
  | some i => exec i s
  | none => engineTurn s

/-! ### The Host -/

/-- A write of the word `c` to CMD (R181): decode it, run the command, or record an illegal word. -/
def writeCommand (c : Word) (s : State) : Result :=
  match decodeCommand c with
  | .ok i => exec i s
  | .error _ => illegalCommand s

/-- A whole-word write at an offset of the block (R37). -/
def writeOffset (o : Nat) (v : Word) (s : State) : Result :=
  match regAt o with
  | none => .next s
  | some r => if r = .cmd then writeCommand v s else .next (storeReg r v s)

/-- Record a value that a host read returned; no register changes (R37, R68). -/
def recordRead (v : Word) (s : State) : State := { s with reads := s.reads ++ [v] }

/-- A host read (R37, R67, R94). -/
def hostRead (p : Place) (bytes : Nat) (s : State) : Result :=
  match accessOffset p bytes with
  | .error r => .refused r
  | .ok o => .next (recordRead (readOffset o s) s)

/-- A host write (R37, R67, R94). -/
def hostWrite (p : Place) (bytes : Nat) (v : Word) (s : State) : Result :=
  match accessOffset p bytes with
  | .error r => .refused r
  | .ok o => writeOffset o v s

/-- Attach or detach the byte source, only while BUSY = 0 (R61, R180). -/
def setSource (src : Source) (s : State) : Result :=
  if busy s then .refused .sourceHeld else .next { s with src := src }

/-- The polling of `wait` (R94): one read of STATUS; while it shows BUSY = 1 the engine takes a turn
and the poll comes again (log 5). -/
def pollStatus (s : State) : State :=
  let s' := recordRead (readReg .status s) s
  if busy s then { s' with turns := .engine :: .wait :: s.turns } else s'

/-! ### One turn -/

/-- One turn, taken from the state whose `turns` no longer list it. -/
def takeTurn (t : Turn) (s : State) : Result :=
  match t with
  | .engine => engineTurn s
  | .engineHeader => engineHeaderTurn s
  | .read p bytes => hostRead p bytes s
  | .write p bytes v => hostWrite p bytes v s
  | .attach bs => setSource (some bs) s
  | .detach => setSource none s
  | .wait => .next (pollStatus s)
  | .reset => .next (resetInstance s)

/-- The state whose first pending turn is taken off. -/
def dropTurn (s : State) : State := { s with turns := s.turns.tail }

/-- The next turn: the first one pending, or the engine's when the host has none left. -/
def nextTurn (s : State) : Result :=
  match s.turns with
  | [] => engineTurn s
  | t :: _ => takeTurn t (dropTurn s)

/-! ### Placing an instruction where the next turn fetches it -/

/-- The first `n` bytes of a list, zero bytes after its end. -/
def prefixBytes : Nat → List Byte → List Byte
  | 0, _ => []
  | n + 1, [] => 0 :: prefixBytes n []
  | n + 1, b :: bs => b :: prefixBytes n bs

/-- Put an encoding where its domain is fetched: an FSM code in FSM with the engine's turn next and a
byte source held, a command word in a pending write to CMD, header bytes at CURSOR with the header
decoder at byte 0. -/
def placeEncoding (e : Encoding) (s : State) : State :=
  match e with
  | .fsm c =>
    match fsmOfCode c with
    | none => s
    | some f =>
      { s with fsm := f, srcOpen := true, src := some (s.src.getD []), turns := .engine :: s.turns }
  | .command w => { s with turns := .write (.offset (regOffset .cmd)) 4 w :: s.turns }
  | .frame bytes =>
    { s with
      fsm := .decHdr
      hdrIdx := 0
      srcOpen := true
      src := some (prefixBytes s.cursor (s.src.getD []) ++ bytes)
      turns := .engineHeader :: s.turns }

/-- Place a word of the opcode table; a word no row format has changes nothing. -/
def placeTableWord (s : State) (nbits w : Nat) : State :=
  match tableEncoding nbits w with
  | none => s
  | some e => placeEncoding e s

end Sys2Proof.Machine
end

