-- ==== Sys2Proof/Machine/Step.lean ====
section
/-! DEFINITION. The step of the machine. -/

namespace Sys2Proof.Machine

/-- One step: one whole Engine step, Host action or reset (R68, R71, R180, R230). -/
def step (s : State) : Host.Outcome State Fault Refusal := nextTurn s

/-- The state with an opcode-table word where the next step fetches it. -/
def State.withFetchWord (s : State) (nbits w : Nat) : State := placeTableWord s nbits w

end Sys2Proof.Machine
end

