-- ==== Sys2Proof/Machine/HostLines.lean ====
section
/-! DEFINITION. The host program lines of R94 as turns: a line is one host action. -/

namespace Sys2Proof.Machine

/-- `rd <REG>` (R94). -/
def rd (r : Reg) : Turn := .read (.offset (regOffset r)) 4

/-- `wr <REG>, <value>` (R94). -/
def wr (r : Reg) (v : Word) : Turn := .write (.offset (regOffset r)) 4 v

/-- `cmd <MNEMONIC>`, a write of the mnemonic's command word to CMD (R94); only commands have one, a
micro-operation cannot be written by the host (R95). -/
def cmdLine (i : Instr) : Option Turn :=
  match encode i with
  | .command w => some (wr .cmd w)
  | .frame _ => none
  | .fsm _ => none

end Sys2Proof.Machine
end

