-- ==== Sys2Proof/Machine/Scan.lean ====
section
/-! DEFINITION. A whole scan as one function (R190): START, then Engine steps only, for as many steps
as R189 bounds a scan by. -/

namespace Sys2Proof.Machine

/-- `n` Engine steps with no host action between them, stopping at a fault or refusal. -/
def engineRun : Nat → State → Result
  | 0, s => .next s
  | n + 1, s =>
    match engineTurn s with
    | .next s' => engineRun n s'
    | .fault r => .fault r
    | .refused r => .refused r

/-- The bound of R189 on the Engine steps of a scan over a stream of `len` bytes. -/
def scanBound (len : Nat) : Nat := len + 3 * (len / 10) + 2

/-- What a whole scan is observed as (R190). -/
inductive ScanOutcome where
  /-- a result: the records and the two integrity signals (R165) -/
  | result (records : List Descriptor) (csumErr trunc : Bool)
  /-- no result: the fatal code, 1 to 6 (R201) -/
  | fatal (code : BitVec 4)
  /-- no scan: the stream has 2^32 bytes or more (R63) -/
  | refused
  /-- the scan has not stopped: no outcome to read yet; R189's bound rules it out of `scan` -/
  | unfinished
deriving DecidableEq, Repr

/-- The outcome read at STOPPED (R31, R165, R190). -/
def outcomeOf (s : State) : ScanOutcome :=
  if s.fsm ≠ .stopped then .unfinished
  else if s.resultValid then .result s.records s.csumErr s.trunc
  else .fatal s.fatalCode

/-- The outcome of a START and the Engine steps after it, from a state with BUSY = 0 (R190). -/
def scanFrom (s : State) : ScanOutcome :=
  match exec .start s with
  | .next s1 =>
    match engineRun (scanBound (sourceLength s)) s1 with
    | .next s2 => outcomeOf s2
    | .fault _ => .unfinished
    | .refused _ => .unfinished
  | .fault _ => .unfinished
  | .refused _ => .refused

/-- `Scan(f, t, s, SRC)` (R190), the bounds as the 32-bit patterns the CFG registers hold, read as
signed (R33). -/
def scan (first last stride : Word) (src : Source) : ScanOutcome :=
  scanFrom { State.reset with cfgFrom := first, cfgTo := last, cfgBy := stride, src := src }

end Sys2Proof.Machine
end

