-- ==== Sys2Proof/Safety.lean ====
section
/-! DEFINITION. What counts as a safe state and a safe run of OCE-FSCAN: the invariant that the spec's
derived rules describe, the part of the state a scan depends on, and well-formed streams of frames. -/

namespace Sys2Proof.Machine

/-! ### The invariant -/

/-- FSM is READ_PAY, VALIDATING or EMITTING: the current frame's header is complete. -/
def payloadPhase (s : State) : Bool :=
  s.fsm == .readPay || s.fsm == .validating || s.fsm == .emitting

/-- The position at which the current frame begins; before the first frame and after the scan, the
position of CURSOR. -/
def frameStart (s : State) : Nat :=
  match s.fsm with
  | .idle => s.cursor
  | .seeking => s.cursor
  | .decHdr => s.cursor - s.hdrIdx.toNat
  | .readPay => s.payStart - s.hdrSize.toNat
  | .validating => s.payStart - s.hdrSize.toNat
  | .emitting => s.payStart - s.hdrSize.toNat
  | .stopped => s.cursor

/-- The header size byte is one of the two the formats have (R122). -/
def knownSize (s : State) : Bool := s.hdrSize == Config.size10 || s.hdrSize == Config.size12

/-- What every state that a run from reset reaches has. Each field names the rules it gathers. -/
structure Inv (s : State) : Prop where
  /-- a busy engine holds a source shorter than 2^32, and CURSOR is within it (R23, R61, R63) -/
  source : busy s = true →
    s.src.isSome = true ∧ sourceLength s < Config.posBound ∧ s.cursor ≤ sourceLength s
  /-- CURSOR and PAY_START fit their registers, and the payload begins at or before CURSOR (R20) -/
  positions : s.cursor < Config.posBound ∧ s.payStart ≤ s.cursor
  /-- SRC_OPEN = 1 exactly while a scan runs (R32, R76) -/
  sourceOpen : s.srcOpen = busy s
  /-- outside STOPPED there is no outcome (R31) -/
  noOutcome : s.fsm ≠ .stopped → s.resultValid = false ∧ s.fatalCode = 0
  /-- at STOPPED exactly one of RESULT_VALID = 1 and FATAL_CODE != 0 holds (R31) -/
  oneOutcome : s.fsm = .stopped → (s.resultValid = true ↔ s.fatalCode = 0)
  /-- FATAL_CODE is one of the codes of R201 -/
  fatalRange : s.fatalCode.toNat ≤ 6
  /-- a stop without a result leaves no records and no integrity flag (R202) -/
  fatalEmpty : s.fsm = .stopped → s.resultValid = false →
    s.records = [] ∧ s.csumErr = false ∧ s.trunc = false
  /-- IDLE is reached by reset and CLEAR only, which clear the scan's state (R40, R184) -/
  idleClear : s.fsm = .idle → s.cursor = 0 ∧ s.recCount = 0 ∧ s.records = [] ∧ s.hdrIdx = 0 ∧
    s.csumErr = false ∧ s.trunc = false
  /-- while SEEKING no header has been read and no record found (R110, R111) -/
  seekingClear : s.fsm = .seeking → s.recCount = 0 ∧ s.records = [] ∧ s.hdrIdx = 0 ∧
    s.csumErr = false
  /-- truncation stops the scan (R142) -/
  truncStops : s.trunc = true → s.fsm = .stopped
  /-- HDR_IDX is 0 to 12 (R26) -/
  hdrIdxRange : s.hdrIdx.toNat ≤ 12
  /-- inside a header HDR_IDX counts the bytes before CURSOR, and the bytes checked so far passed
  (R120 to R123) -/
  inHeader : s.fsm = .decHdr → s.hdrIdx.toNat ≤ s.cursor ∧
    (s.hdrIdx = 0 ∨
      s.hdrSync = Config.sync ∧
        (s.hdrIdx = 1 ∧ s.hdrDsize = 0 ∨
          knownSize s = true ∧ 2 ≤ s.hdrIdx.toNat ∧ s.hdrIdx.toNat < s.hdrSize.toNat))
  /-- after a header the counters agree with its registers (R26, R27, R124) -/
  inPayload : payloadPhase s = true → s.hdrSync = Config.sync ∧ knownSize s = true ∧
    s.hdrIdx.toNat = s.hdrSize.toNat ∧ s.hdrSize.toNat ≤ s.payStart ∧
    s.cursor = s.payStart + s.payIdx.toNat ∧ s.payIdx.toNat ≤ s.hdrDsize.toNat
  /-- VALIDATING and EMITTING come after the whole payload (R142) -/
  payloadDone : s.fsm = .validating ∨ s.fsm = .emitting → s.payIdx = s.hdrDsize
  /-- HDR_DSIZE[31:16] is zero for an H10 header (R25) -/
  dsizeH10 : s.hdrSize = Config.size10 → s.hdrDsize.toNat < 2 ^ 16
  /-- the latched bounds are legal: LAT_FROM >= 1, LAT_BY >= 1, all below 2^31 (R162, R183) -/
  latched : 1 ≤ s.latFrom ∧ s.latFrom < 2 ^ 31 ∧ s.latTo < 2 ^ 31 ∧ 1 ≤ s.latBy ∧ s.latBy < 2 ^ 31
  /-- a running scan has not reached its limit (R161) -/
  belowLimit : busy s = true → s.latTo ≠ 0 → s.recCount.toNat < s.latTo
  /-- every decoded frame took at least 10 bytes (R28, R126) -/
  countBound : 10 * s.recCount.toNat ≤ frameStart s
  /-- a record is selected from the decoded ones (R161) -/
  recordsBound : s.records.length ≤ s.recCount.toNat
  /-- RECORDS is in stream order, each record after the whole of the one before it (R127, R163) -/
  recordsOrdered :
    s.records.Pairwise fun a b => a.offset + a.length.toNat + 10 ≤ b.offset
  /-- every record's payload lies before the current frame, behind a header of its own (R160) -/
  recordsBehind : ∀ r ∈ s.records, 10 ≤ r.offset ∧ r.offset + r.length.toNat ≤ frameStart s

/-- The payload bytes consumed so far of the current frame: PAY_IDX bytes from PAY_START (R27). -/
def payloadSoFar (s : State) : List Byte :=
  ((s.src.getD []).drop s.payStart).take s.payIdx.toNat

/-- After a header, ACC is the checksum of the payload bytes consumed so far (R140, R142, R148). -/
def AccHoldsChecksum (s : State) : Prop :=
  payloadPhase s = true → s.acc = checksum (payloadSoFar s)

/-- How many of the decoded records 1 to `n` the predicate of R162 keeps. -/
def selectedCount (first stride n : Nat) : Nat :=
  ((List.range n).filter fun k => selected first stride (k + 1)).length

/-- While a scan runs and while its result stands, RECORDS has one descriptor for each selected record
among the decoded ones (R161, R162, R165). -/
def RecordsAreSelection (s : State) : Prop :=
  busy s = true ∨ s.resultValid = true →
    s.records.length = selectedCount s.latFrom s.latBy s.recCount.toNat

/-! ### What a scan depends on -/

/-- A state with everything a running scan neither reads nor reports set to a constant: CFG_*,
CSUM_DATA, REC_SEL, CMD_ERR and the host's own side (R180). -/
def scanView (s : State) : State :=
  { s with
    cfgFrom := 0, cfgTo := 0, cfgBy := 0, csumData := 0, recSel := 0, cmdErr := false
    turns := [], reads := [] }

/-- A turn that every schedule may take while BUSY = 1: an Engine step, or a whole-word register
access inside the block (R180). -/
def enabledWhileBusy : Turn → Bool
  | .engine => true
  | .engineHeader => false
  | .read p n => (accessOffset p n).isOk
  | .write p n _ => (accessOffset p n).isOk
  | .attach _ => false
  | .detach => false
  | .wait => false
  | .reset => false

/-! ### Streams of whole frames -/

/-- A frame: its header and the payload that follows it (R83). -/
structure Frame where
  header  : Header
  payload : List Byte
deriving DecidableEq, Repr

/-- A frame of one of the two formats with as many payload bytes as its header says (R81 to R83). -/
def frameWf (f : Frame) : Bool :=
  (f.header.wf10 || f.header.wf12) && f.payload.length == f.header.dsize.toNat

/-- The header's bytes in its own format (R81, R82, R84). -/
def headerBytes (h : Header) : List Byte :=
  if h.size = Config.size10 then encodeH10 h else encodeH12 h

/-- The bytes of a frame, in stream order (R83). -/
def frameBytes (f : Frame) : List Byte := headerBytes f.header ++ f.payload

/-- The bytes of back-to-back frames (R83). -/
def streamBytes (fs : List Frame) : List Byte := fs.flatMap frameBytes

/-- The descriptors of back-to-back frames whose first one begins at position `p` (R127, R160). -/
def streamRecords : Nat → List Frame → List Descriptor
  | _, [] => []
  | p, f :: fs =>
    ⟨p + f.header.size.toNat, f.header.dsize, f.header.id⟩ ::
      streamRecords (p + f.header.size.toNat + f.payload.length) fs

/-- The payload does not sum to what its header declares (R143). -/
def frameMismatch (f : Frame) : Bool := checksum f.payload != f.header.dcsum

end Sys2Proof.Machine
end

