-- ==== Sys2Proof/Certificates/Slice0/Obligations.lean ====
section
/-! DEFINITION. The statements for the provers. Each cites the rules of spec/ it formalises; where a
clause rests on a choice of the model's own, its docstring names the log entry. -/

open Sys2Proof Sys2Proof.Machine

/-! ### Encodings -/

/-- R80 to R92: decoding the encoding of a well-formed instruction gives it back, and a header is
decoded alike whatever bytes follow it. -/
def Obligations.DecodeOfEncodeIsIdentity : Prop :=
  (∀ i : Instr, i.wf = true → decode (encode i) = .ok i) ∧
  (∀ (h : Header) (rest : List Byte), h.wf10 = true →
    decodeHeader (encodeH10 h ++ rest) = .ok (.hdr10 h, rest)) ∧
  (∀ (h : Header) (rest : List Byte), h.wf12 = true →
    decodeHeader (encodeH12 h ++ rest) = .ok (.hdr12 h, rest))

/-- R80 to R92, the other direction: what the decoder accepts is well formed and is the encoding of
what it answers; of a frame, the header's bytes stand first and the rest follows. -/
def Obligations.EncodeOfDecodeIsIdentity : Prop :=
  (∀ (bytes rest : List Byte) (i : Instr), decodeHeader bytes = .ok (i, rest) →
    i.wf = true ∧ ∃ hb, encode i = .frame hb ∧ bytes = hb ++ rest) ∧
  (∀ (w : Word) (i : Instr), decode (.command w) = .ok i → encode i = .command w) ∧
  (∀ (c : BitVec 3) (i : Instr), decode (.fsm c) = .ok i → encode i = .fsm c)

/-- R90, R91: five words select commands; every other word is illegal. -/
def Obligations.CommandWordsSelectFiveCommands : Prop :=
  decodeCommand 0x00000000 = .ok .nop ∧ decodeCommand 0x00000001 = .ok .start ∧
  decodeCommand 0x00000002 = .ok .clear ∧ decodeCommand 0x00000003 = .ok .csumSeed ∧
  decodeCommand 0x00000004 = .ok .csumWord ∧
  ∀ w : Word, 5 ≤ w.toNat → decodeCommand w = .error (.illegalCommand w)

/-- R88: W = 0x0AA5 selects H10, W = 0x0CA5 selects H12; the two illegal patterns are named in the
order the decoder meets them. -/
def Obligations.FirstTwoHeaderBytesSelectFormat : Prop :=
  (∀ x : List Byte, 8 ≤ x.length →
    ∃ h : Header, decodeHeader (0xA5 :: 0x0A :: x) = .ok (.hdr10 h, x.drop 8)) ∧
  (∀ x : List Byte, 10 ≤ x.length →
    ∃ h : Header, decodeHeader (0xA5 :: 0x0C :: x) = .ok (.hdr12 h, x.drop 10)) ∧
  (∀ (b0 : Byte) (x : List Byte), b0 ≠ 0xA5 → decodeHeader (b0 :: x) = .error (.lostSync b0)) ∧
  (∀ (b1 : Byte) (x : List Byte), b1 ≠ 0x0A → b1 ≠ 0x0C →
    decodeHeader (0xA5 :: b1 :: x) = .error (.invalidHeaderSize b1))

/-- R92: FSM codes 1 to 5 select the five micro-operations; 0, 6 and 7 select none, and no scan state
has code 7. -/
def Obligations.FsmCodeSelectsMicroOperation : Prop :=
  decodeFsm 1 = .ok .seekStep ∧ decodeFsm 2 = .ok .hdrStep ∧ decodeFsm 3 = .ok .payStep ∧
  decodeFsm 4 = .ok .validate ∧ decodeFsm 5 = .ok .emit ∧
  (∀ c : BitVec 3, c = 0 ∨ c = 6 ∨ c = 7 → decodeFsm c = .error (.noMicroOperation c)) ∧
  (∀ f : Fsm, fsmCode f ≠ 7)

/-- Words written out from the encodings of R81, R82, R90 and R92 decode to their instructions. -/
def Obligations.SampleWordsDecode : Prop :=
  decode (.frame [0xA5, 0x0A, 0x16, 0x10, 0x04, 0x00, 0xCC, 0x15, 0x17, 0xE6]) =
    .ok (.hdr10 ⟨0xA5, 10, 0x16, 0x10, 4, 0x15CC, 0xE617⟩) ∧
  decode (.frame [0xA5, 0x0C, 0x15, 0x10, 0x70, 0x11, 0x01, 0x00, 0x94, 0x7A, 0x34, 0x12]) =
    .ok (.hdr12 ⟨0xA5, 12, 0x15, 0x10, 70000, 0x7A94, 0x1234⟩) ∧
  decode (.command 0x00000001) = .ok .start ∧
  decode (.fsm 0b011) = .ok .payStep

/-! ### Micro-operations -/

/-- R110: SEEK_STEP at the end of the stream, at the sync byte, and at any other byte. -/
def Obligations.SeekStepFailsFindsOrSkips : Prop :=
  encode .seekStep = .fsm 1 ∧
  ∀ (s : State) (bs : List Byte), s.src = some bs →
    (bs.length ≤ s.cursor → exec .seekStep s = .next
      { s with
        fatalCode := 1, resultValid := false, records := [], csumErr := false, trunc := false
        srcOpen := false, fsm := .stopped }) ∧
    (bs[s.cursor]? = some 0xA5 → exec .seekStep s = .next
      { s with hdrIdx := 0, fsm := .decHdr }) ∧
    (∀ b : Byte, bs[s.cursor]? = some b → b ≠ 0xA5 → exec .seekStep s = .next
      { s with cursor := s.cursor + 1 })

/-- R120, the end-of-stream test: a clean stop before byte 0, TruncatedHeader inside a header. -/
def Obligations.HdrStepAtEndOfStream : Prop :=
  ∀ (s : State) (bs : List Byte), s.src = some bs → bs.length ≤ s.cursor →
    (s.hdrIdx = 0 → exec .hdrStep s = .next
      { s with resultValid := true, fatalCode := 0, srcOpen := false, fsm := .stopped }) ∧
    (s.hdrIdx ≠ 0 → exec .hdrStep s = .next
      { s with
        fatalCode := 2, resultValid := false, records := [], csumErr := false, trunc := false
        srcOpen := false, fsm := .stopped })

/-- R121: header byte 0 clears the header registers, is latched, and stops the scan with LostSync
unless it is 0xA5. CURSOR and HDR_IDX advance with it (R120). -/
def Obligations.HdrStepByteZero : Prop :=
  ∀ (s : State) (bs : List Byte) (b : Byte), s.src = some bs → bs[s.cursor]? = some b →
    s.hdrIdx = 0 →
    (b = 0xA5 → exec .hdrStep s = .next
      { s with
        cursor := s.cursor + 1, hdrIdx := 1, hdrSync := b, hdrSize := 0, hdrId := 0
        hdrFamily := 0, hdrDsize := 0, hdrDcsum := 0, hdrHcsum := 0 }) ∧
    (b ≠ 0xA5 → exec .hdrStep s = .next
      { s with
        cursor := s.cursor + 1, hdrIdx := 1, hdrSync := b, hdrSize := 0, hdrId := 0
        hdrFamily := 0, hdrDsize := 0, hdrDcsum := 0, hdrHcsum := 0
        fatalCode := 6, resultValid := false, records := [], csumErr := false, trunc := false
        srcOpen := false, fsm := .stopped })

/-- R122: header byte 1 is latched as the header size and stops the scan with InvalidHeaderSize
unless it is 10 or 12. -/
def Obligations.HdrStepByteOne : Prop :=
  ∀ (s : State) (bs : List Byte) (b : Byte), s.src = some bs → bs[s.cursor]? = some b →
    s.hdrIdx = 1 →
    (b = 10 ∨ b = 12 → exec .hdrStep s = .next
      { s with cursor := s.cursor + 1, hdrIdx := 2, hdrSize := b }) ∧
    (b ≠ 10 → b ≠ 12 → exec .hdrStep s = .next
      { s with
        cursor := s.cursor + 1, hdrIdx := 2, hdrSize := b
        fatalCode := 3, resultValid := false, records := [], csumErr := false, trunc := false
        srcOpen := false, fsm := .stopped })

/-- R123, column S = 10, and R124: bytes 2 to 8 fill their lanes, byte 9 fills its lane and completes
the header. -/
def Obligations.HdrStepFillsH10Fields : Prop :=
  ∀ (s : State) (bs : List Byte) (b : Byte), s.src = some bs → bs[s.cursor]? = some b →
    s.hdrSize = 10 →
    (s.hdrIdx = 2 → exec .hdrStep s = .next
      { s with cursor := s.cursor + 1, hdrIdx := 3, hdrId := b }) ∧
    (s.hdrIdx = 3 → exec .hdrStep s = .next
      { s with cursor := s.cursor + 1, hdrIdx := 4, hdrFamily := b }) ∧
    (s.hdrIdx = 4 → exec .hdrStep s = .next
      { s with cursor := s.cursor + 1, hdrIdx := 5, hdrDsize := s.hdrDsize.extractLsb' 8 24 ++ b }) ∧
    (s.hdrIdx = 5 → exec .hdrStep s = .next
      { s with
        cursor := s.cursor + 1, hdrIdx := 6
        hdrDsize := s.hdrDsize.extractLsb' 16 16 ++ b ++ s.hdrDsize.extractLsb' 0 8 }) ∧
    (s.hdrIdx = 6 → exec .hdrStep s = .next
      { s with cursor := s.cursor + 1, hdrIdx := 7, hdrDcsum := s.hdrDcsum.extractLsb' 8 8 ++ b }) ∧
    (s.hdrIdx = 7 → exec .hdrStep s = .next
      { s with cursor := s.cursor + 1, hdrIdx := 8, hdrDcsum := b ++ s.hdrDcsum.extractLsb' 0 8 }) ∧
    (s.hdrIdx = 8 → exec .hdrStep s = .next
      { s with cursor := s.cursor + 1, hdrIdx := 9, hdrHcsum := s.hdrHcsum.extractLsb' 8 8 ++ b }) ∧
    (s.hdrIdx = 9 → exec .hdrStep s = .next
      { s with
        cursor := s.cursor + 1, hdrIdx := 10, hdrHcsum := b ++ s.hdrHcsum.extractLsb' 0 8
        acc := 0xB58C, payIdx := 0, payStart := s.cursor + 1, fsm := .readPay })

/-- R123, column S = 12, and R124: bytes 2 to 10 fill their lanes, byte 11 fills its lane and
completes the header. -/
def Obligations.HdrStepFillsH12Fields : Prop :=
  ∀ (s : State) (bs : List Byte) (b : Byte), s.src = some bs → bs[s.cursor]? = some b →
    s.hdrSize = 12 →
    (s.hdrIdx = 2 → exec .hdrStep s = .next
      { s with cursor := s.cursor + 1, hdrIdx := 3, hdrId := b }) ∧
    (s.hdrIdx = 3 → exec .hdrStep s = .next
      { s with cursor := s.cursor + 1, hdrIdx := 4, hdrFamily := b }) ∧
    (s.hdrIdx = 4 → exec .hdrStep s = .next
      { s with cursor := s.cursor + 1, hdrIdx := 5, hdrDsize := s.hdrDsize.extractLsb' 8 24 ++ b }) ∧
    (s.hdrIdx = 5 → exec .hdrStep s = .next
      { s with
        cursor := s.cursor + 1, hdrIdx := 6
        hdrDsize := s.hdrDsize.extractLsb' 16 16 ++ b ++ s.hdrDsize.extractLsb' 0 8 }) ∧
    (s.hdrIdx = 6 → exec .hdrStep s = .next
      { s with
        cursor := s.cursor + 1, hdrIdx := 7
        hdrDsize := s.hdrDsize.extractLsb' 24 8 ++ b ++ s.hdrDsize.extractLsb' 0 16 }) ∧
    (s.hdrIdx = 7 → exec .hdrStep s = .next
      { s with cursor := s.cursor + 1, hdrIdx := 8, hdrDsize := b ++ s.hdrDsize.extractLsb' 0 24 }) ∧
    (s.hdrIdx = 8 → exec .hdrStep s = .next
      { s with cursor := s.cursor + 1, hdrIdx := 9, hdrDcsum := s.hdrDcsum.extractLsb' 8 8 ++ b }) ∧
    (s.hdrIdx = 9 → exec .hdrStep s = .next
      { s with cursor := s.cursor + 1, hdrIdx := 10, hdrDcsum := b ++ s.hdrDcsum.extractLsb' 0 8 }) ∧
    (s.hdrIdx = 10 → exec .hdrStep s = .next
      { s with cursor := s.cursor + 1, hdrIdx := 11, hdrHcsum := s.hdrHcsum.extractLsb' 8 8 ++ b }) ∧
    (s.hdrIdx = 11 → exec .hdrStep s = .next
      { s with
        cursor := s.cursor + 1, hdrIdx := 12, hdrHcsum := b ++ s.hdrHcsum.extractLsb' 0 8
        acc := 0xB58C, payIdx := 0, payStart := s.cursor + 1, fsm := .readPay })

/-- R123 (the values after byte S-1), R124: what HDR10 and HDR12 leave. -/
def Obligations.WholeHeaderLatchesItsFields : Prop :=
  (∀ (s : State) (h : Header), h.wf10 = true → exec (.hdr10 h) s = .next
    { s with
      hdrSync := 0xA5, hdrSize := 10, hdrId := h.id, hdrFamily := h.family
      hdrDsize := h.dsize, hdrDcsum := h.dcsum, hdrHcsum := h.hcsum
      cursor := s.cursor + 10, hdrIdx := 10
      acc := 0xB58C, payIdx := 0, payStart := s.cursor + 10, fsm := .readPay }) ∧
  (∀ (s : State) (h : Header), h.wf12 = true → exec (.hdr12 h) s = .next
    { s with
      hdrSync := 0xA5, hdrSize := 12, hdrId := h.id, hdrFamily := h.family
      hdrDsize := h.dsize, hdrDcsum := h.dcsum, hdrHcsum := h.hcsum
      cursor := s.cursor + 12, hdrIdx := 12
      acc := 0xB58C, payIdx := 0, payStart := s.cursor + 12, fsm := .readPay })

/-- R120 to R124, R126: where the decoder reads a whole header at CURSOR, ten (twelve) HDR_STEPs have
exactly the effect of HDR10 (HDR12), and so has the model's one turn for a whole header (log 4). -/
def Obligations.HeaderStepsComposeToWholeHeader : Prop :=
  ∀ (s : State) (bs rest : List Byte) (h : Header),
    s.fsm = .decHdr → s.hdrIdx = 0 → s.src = some bs →
    (decodeHeader (bs.drop s.cursor) = .ok (.hdr10 h, rest) →
      engineRun 10 s = exec (.hdr10 h) s ∧ engineHeaderTurn s = exec (.hdr10 h) s) ∧
    (decodeHeader (bs.drop s.cursor) = .ok (.hdr12 h, rest) →
      engineRun 12 s = exec (.hdr12 h) s ∧ engineHeaderTurn s = exec (.hdr12 h) s)

/-- R142: PAY_STEP at the end of the payload, at the end of the stream inside the payload, and at a
payload byte. -/
def Obligations.PayStepFinishesTruncatesOrAdds : Prop :=
  encode .payStep = .fsm 3 ∧
  (∀ s : State, s.payIdx = s.hdrDsize → exec .payStep s = .next { s with fsm := .validating }) ∧
  (∀ (s : State) (bs : List Byte), s.src = some bs → s.payIdx ≠ s.hdrDsize →
    bs.length ≤ s.cursor → exec .payStep s = .next
      { s with trunc := true, resultValid := true, fatalCode := 0, srcOpen := false
               fsm := .stopped }) ∧
  (∀ (s : State) (bs : List Byte) (b : Byte), s.src = some bs → s.payIdx ≠ s.hdrDsize →
    bs[s.cursor]? = some b → exec .payStep s = .next
      { s with
        cursor := s.cursor + 1
        acc := s.acc + (if s.payIdx.toNat % 2 = 0 then b.setWidth 16 else b ++ (0x00 : Byte))
        payIdx := s.payIdx + 1 })

/-- R143: VALIDATE sets CSUM_ERR on a mismatch, leaves it on a match, and always goes on. -/
def Obligations.ValidateRecordsMismatch : Prop :=
  encode .validate = .fsm 4 ∧
  ∀ s : State,
    (s.acc ≠ s.hdrDcsum →
      exec .validate s = .next { s with csumErr := true, fsm := .emitting }) ∧
    (s.acc = s.hdrDcsum → exec .validate s = .next { s with fsm := .emitting })

/-- R161, R162: EMIT counts the record, appends it when selected, stops at the limit and otherwise
goes on to the next header. -/
def Obligations.EmitCountsSelectsAndStops : Prop :=
  encode .emit = .fsm 5 ∧
  ∀ (s : State) (n : Nat) (recs : List Descriptor), 1 ≤ s.latBy → n = s.recCount.toNat + 1 →
    recs = (if s.latFrom ≤ n ∧ (n - s.latFrom) % s.latBy = 0 then
      s.records ++ [⟨s.payStart, s.hdrDsize, s.hdrId⟩] else s.records) →
    (s.latTo ≠ 0 ∧ n = s.latTo → exec .emit s = .next
      { s with
        recCount := BitVec.ofNat 32 n, records := recs
        resultValid := true, fatalCode := 0, srcOpen := false, fsm := .stopped }) ∧
    (¬(s.latTo ≠ 0 ∧ n = s.latTo) → exec .emit s = .next
      { s with recCount := BitVec.ofNat 32 n, records := recs, hdrIdx := 0, fsm := .decHdr })

/-- The model's own stops, in states that no run reaches (log 8): a reading micro-operation with no
source held, a header byte that R123's table has no row for, a stride of zero. -/
def Obligations.UnreachableStatesFaultByName : Prop :=
  ∀ s : State,
    (s.src = none →
      exec .seekStep s = .fault .noSourceHeld ∧ exec .hdrStep s = .fault .noSourceHeld ∧
      (s.payIdx ≠ s.hdrDsize → exec .payStep s = .fault .noSourceHeld)) ∧
    (∀ (bs : List Byte) (b : Byte), s.src = some bs → bs[s.cursor]? = some b → 2 ≤ s.hdrIdx.toNat →
      (s.hdrSize ≠ 10 ∧ s.hdrSize ≠ 12 ∨ s.hdrSize.toNat ≤ s.hdrIdx.toNat) →
      exec .hdrStep s = .fault .noHeaderField) ∧
    (s.latBy = 0 → exec .emit s = .fault .zeroStride)

/-! ### Host commands -/

/-- R182: NOP changes nothing, busy or not. -/
def Obligations.NopChangesNothing : Prop :=
  encode .nop = .command 0x00000000 ∧ ∀ s : State, exec .nop s = .next s

/-- R183: START with BUSY = 0, its four outcomes in the order of its checks; with BUSY = 1 it is
rejected (R181). -/
def Obligations.StartChecksThenSeeks : Prop :=
  encode .start = .command 0x00000001 ∧
  (∀ s : State, busy s = true → exec .start s = .next { s with cmdErr := true }) ∧
  ∀ (s c : State), busy s = false →
    c = { s with
      records := [], recCount := 0, csumErr := false, trunc := false, cmdErr := false
      fatalCode := 0, resultValid := false, cursor := 0, hdrIdx := 0, payIdx := 0, payStart := 0
      hdrSync := 0, hdrSize := 0, hdrId := 0, hdrFamily := 0, hdrDsize := 0, hdrDcsum := 0
      hdrHcsum := 0 } →
    (s.cfgFrom.toInt ≤ 0 ∨ s.cfgTo.toInt < 0 ∨ s.cfgBy.toInt ≤ 0 →
      exec .start s = .next { c with fatalCode := 4, srcOpen := false, fsm := .stopped }) ∧
    (0 < s.cfgFrom.toInt → 0 ≤ s.cfgTo.toInt → 0 < s.cfgBy.toInt →
      (s.src = none →
        exec .start s = .next { c with fatalCode := 5, srcOpen := false, fsm := .stopped }) ∧
      (∀ bs, s.src = some bs → 2 ^ 32 ≤ bs.length → exec .start s = .refused .streamTooLong) ∧
      (∀ bs, s.src = some bs → bs.length < 2 ^ 32 → exec .start s = .next
        { c with
          latFrom := s.cfgFrom.toNat, latTo := s.cfgTo.toNat, latBy := s.cfgBy.toNat
          srcOpen := true, fsm := .seeking }))

/-- R184: CLEAR with BUSY = 0 discards the result and returns to IDLE; with BUSY = 1 it is rejected
(R181). -/
def Obligations.ClearReturnsToIdle : Prop :=
  encode .clear = .command 0x00000002 ∧
  (∀ s : State, busy s = true → exec .clear s = .next { s with cmdErr := true }) ∧
  ∀ s : State, busy s = false → exec .clear s = .next
    { s with
      records := [], recCount := 0, csumErr := false, trunc := false, cmdErr := false
      fatalCode := 0, resultValid := false, cursor := 0, hdrIdx := 0, payIdx := 0, payStart := 0
      hdrSync := 0, hdrSize := 0, hdrId := 0, hdrFamily := 0, hdrDsize := 0, hdrDcsum := 0
      hdrHcsum := 0, fsm := .idle }

/-- R144: CSUM_SEED with BUSY = 0 writes ACC alone; with BUSY = 1 it is rejected. -/
def Obligations.CsumSeedSeedsAccumulator : Prop :=
  encode .csumSeed = .command 0x00000003 ∧
  (∀ s : State, busy s = true → exec .csumSeed s = .next { s with cmdErr := true }) ∧
  ∀ s : State, busy s = false → exec .csumSeed s = .next { s with acc := 0xB58C }

/-- R145: CSUM_WORD with BUSY = 0 adds CSUM_DATA to ACC modulo 2^16; with BUSY = 1 it is rejected. -/
def Obligations.CsumWordAddsOperand : Prop :=
  encode .csumWord = .command 0x00000004 ∧
  (∀ s : State, busy s = true → exec .csumWord s = .next { s with cmdErr := true }) ∧
  ∀ s : State, busy s = false → exec .csumWord s = .next
    { s with acc := BitVec.ofNat 16 ((s.acc.toNat + s.csumData.toNat) % 2 ^ 16) }

/-- R181, R185: what a whole-word write to CMD does, for every command word and FSM state. That the
write is a turn of the schedule, taken off it here, is the model's (log 2). -/
def Obligations.CommandWriteDispatch : Prop :=
  ∀ (s s' : State) (w : Word) (rest : List Turn),
    s.turns = .write (.offset 0x00) 4 w :: rest → s' = { s with turns := rest } →
    (w = 0 → step s = .next s') ∧
    (5 ≤ w.toNat → step s = .next { s' with cmdErr := true }) ∧
    (1 ≤ w.toNat → w.toNat ≤ 4 → busy s = true → step s = .next { s' with cmdErr := true }) ∧
    (w = 1 → busy s = false → step s = exec .start s') ∧
    (w = 2 → busy s = false → step s = exec .clear s') ∧
    (w = 3 → busy s = false → step s = exec .csumSeed s') ∧
    (w = 4 → busy s = false → step s = exec .csumWord s')

/-- R181, R233: the four commands other than NOP are rejected while BUSY = 1. -/
def Obligations.BusyEngineRejectsCommands : Prop :=
  ∀ (s : State) (i : Instr), i ∈ [Instr.start, .clear, .csumSeed, .csumWord] →
    busy s = true → exec i s = .next { s with cmdErr := true }

/-! ### Stops, reset and steps -/

/-- R201, R202: an instruction that leaves a FATAL_CODE where none stood leaves no result, no records,
no integrity flag and no held source, and the code is one that R201 gives that instruction. The
diagnostics ACC, PAY_IDX and REC_COUNT stay for a micro-operation. -/
def Obligations.FatalStopLeavesNoResult : Prop :=
  ∀ (i : Instr) (s t : State), s.fatalCode = 0 → exec i s = .next t → t.fatalCode ≠ 0 →
    t.fsm = .stopped ∧ t.resultValid = false ∧ t.records = [] ∧ t.csumErr = false ∧
    t.trunc = false ∧ t.srcOpen = false ∧ t.acc = s.acc ∧
    (i ≠ .start → t.payIdx = s.payIdx ∧ t.recCount = s.recCount ∧ t.cmdErr = s.cmdErr) ∧
    (i = .seekStep ∧ t.fatalCode = 1 ∨ i = .hdrStep ∧ t.fatalCode = 2 ∨
     i = .hdrStep ∧ t.fatalCode = 3 ∨ i = .start ∧ t.fatalCode = 4 ∨
     i = .start ∧ t.fatalCode = 5 ∨ i = .hdrStep ∧ t.fatalCode = 6)

/-- R203: an instruction that makes RESULT_VALID 1 where it was 0 stops the scan with FATAL_CODE 0
and the source released, and keeps the records decoded before. -/
def Obligations.ResultStopKeepsRecords : Prop :=
  ∀ (i : Instr) (s t : State), s.resultValid = false → exec i s = .next t →
    t.resultValid = true →
    (i = .hdrStep ∨ i = .payStep ∨ i = .emit) ∧
    t.fsm = .stopped ∧ t.fatalCode = 0 ∧ t.srcOpen = false ∧ t.csumErr = s.csumErr ∧
    (∃ more, t.records = s.records ++ more) ∧ (i ≠ .emit → t.records = s.records) ∧
    (t.trunc = true ↔ s.trunc = true ∨ i = .payStep)

/-- R40, R230: a reset, in any FSM state, gives every element of R20 its reset value in one step and
leaves SRC. That a reset comes as a turn of the schedule is the model's (log 2, log 17). -/
def Obligations.ResetGivesResetValues : Prop :=
  ∀ (s : State) (rest : List Turn), s.turns = .reset :: rest → ∃ t, step s = .next t ∧ t.toScanner =
    { fsm := .idle, cursor := 0, acc := 0, hdrSync := 0, hdrSize := 0, hdrId := 0, hdrFamily := 0
      hdrDsize := 0, hdrDcsum := 0, hdrHcsum := 0, hdrIdx := 0, payIdx := 0, payStart := 0
      recCount := 0, records := [], csumErr := false, trunc := false, cmdErr := false
      resultValid := false, fatalCode := 0, srcOpen := false
      cfgFrom := 1, cfgTo := 0, cfgBy := 1, latFrom := 1, latTo := 0, latBy := 1
      csumData := 0, recSel := 0, src := s.src }

/-- R92, R180, R181: a step runs the instruction decoded from FSM on the engine's turn, from the
command word on a write to CMD (at its offset or its bus address), and from the header bytes at CURSOR
on the model's whole-header turn (log 4); it takes the turn off the list and adds nothing else. -/
def Obligations.StepRunsDecodedInstruction : Prop :=
  (∀ (s : State) (i : Instr), decode (.fsm (fsmCode s.fsm)) = .ok i →
    (s.turns = [] → step s = exec i s) ∧
    (∀ rest, s.turns = .engine :: rest → step s = exec i { s with turns := rest })) ∧
  (∀ (s : State) (w : Word) (i : Instr) (rest : List Turn), decode (.command w) = .ok i →
    s.turns = .write (.offset 0x00) 4 w :: rest ∨
      s.turns = .write (.bus Config.baseAddr) 4 w :: rest →
    step s = exec i { s with turns := rest }) ∧
  (∀ (s : State) (bs : List Byte) (i : Instr) (rest : List Turn),
    s.fsm = .decHdr → s.hdrIdx = 0 → s.src = some bs →
    decode (.frame (bs.drop s.cursor)) = .ok i → s.turns = .engineHeader :: rest →
    step s = exec i { s with turns := rest })

/-- R187, R215: in IDLE and STOPPED the engine takes no step and every element keeps its value. That a
step with no turn pending is then the same state is the model's choice (log 6). -/
def Obligations.IdleEngineKeepsState : Prop :=
  ∀ s : State, s.fsm = .idle ∨ s.fsm = .stopped →
    engineTurn s = .next s ∧ (s.turns = [] → step s = .next s)

/-- R186: no turn but a reset makes a transition of FSM outside the table. -/
def Obligations.FsmTransitionsAreTheTable : Prop :=
  ∀ s t : State, step s = .next t → (∀ rest, s.turns ≠ .reset :: rest) →
    t.fsm = s.fsm ∨
    (s.fsm, t.fsm) ∈
      [(Fsm.idle, Fsm.seeking), (.idle, .stopped), (.stopped, .seeking), (.stopped, .idle),
       (.seeking, .decHdr), (.seeking, .stopped), (.decHdr, .stopped), (.decHdr, .readPay),
       (.readPay, .validating), (.readPay, .stopped), (.validating, .emitting),
       (.emitting, .stopped), (.emitting, .decHdr)]

/-! ### Invariants -/

/-- The reset state has the invariant, and its two companions. -/
def Obligations.ResetHasInvariant : Prop :=
  Inv State.reset ∧ AccHoldsChecksum State.reset ∧ RecordsAreSelection State.reset

/-- Every step keeps the invariant (R20, R23, R25 to R32, R126, R127, R162, R163). -/
def Obligations.StepKeepsInvariant : Prop :=
  ∀ s t : State, Inv s → step s = .next t → Inv t

/-- R62, R123, R162: from a state with the invariant no step faults. A step is refused only on four
turns: START of a source of 2^32 bytes or more with legal bounds (R63, R183), a host access inside the
block that is not a whole word (R67), one outside the block (the model's choice, log 7), and a source
move while BUSY = 1 (R61, R236). With no turn pending, on an engine turn and on a `wait` it goes on. -/
def Obligations.InvariantStatesNeverFault : Prop :=
  ∀ s : State, Inv s →
    (∀ f, step s ≠ .fault f) ∧
    (∀ r, step s = .refused r →
      (r = .streamTooLong ∧ busy s = false ∧ 2 ^ 32 ≤ sourceLength s ∧
        0 < s.cfgFrom.toInt ∧ 0 ≤ s.cfgTo.toInt ∧ 0 < s.cfgBy.toInt ∧
        ∃ p rest, s.turns = .write p 4 0x00000001 :: rest ∧ blockOffset p = some 0x00) ∨
      (r = .notWholeWord ∧ ∃ p n o rest,
        (s.turns = .read p n :: rest ∨ ∃ v, s.turns = .write p n v :: rest) ∧
        blockOffset p = some o ∧ (n ≠ 4 ∨ o % 4 ≠ 0)) ∨
      (r = .outsideBlock ∧ ∃ p n rest,
        (s.turns = .read p n :: rest ∨ ∃ v, s.turns = .write p n v :: rest) ∧
        blockOffset p = none) ∨
      (r = .sourceHeld ∧ busy s = true ∧ ∃ rest,
        s.turns = .detach :: rest ∨ ∃ bs, s.turns = .attach bs :: rest)) ∧
    (∀ rest, s.turns = [] ∨ s.turns = .engine :: rest ∨ s.turns = .wait :: rest →
      ∃ t, step s = .next t)

/-- R140, R142, R148: every step keeps ACC equal to the checksum of the payload consumed so far. -/
def Obligations.StepKeepsChecksumInAccumulator : Prop :=
  ∀ s t : State, Inv s → AccHoldsChecksum s → step s = .next t → AccHoldsChecksum t

/-- R161, R162, R165: every step keeps one descriptor in RECORDS for each selected decoded record. -/
def Obligations.StepKeepsSelectionCount : Prop :=
  ∀ s t : State, Inv s → RecordsAreSelection s → step s = .next t → RecordsAreSelection t

/-! ### Frames -/

/-- R33, R34, R37, R61, R62: no instruction writes the byte source, the configuration and operand
registers, or the host's own side; ACC is written by the instructions R24 names alone, and the latched
bounds by START alone. -/
def Obligations.InstructionsLeaveHostState : Prop :=
  ∀ (i : Instr) (s t : State), exec i s = .next t →
    t.src = s.src ∧ (∀ a, sourceByte t a = sourceByte s a) ∧
    t.cfgFrom = s.cfgFrom ∧ t.cfgTo = s.cfgTo ∧ t.cfgBy = s.cfgBy ∧ t.csumData = s.csumData ∧
    t.recSel = s.recSel ∧ t.turns = s.turns ∧ t.reads = s.reads ∧
    (i ∈ [Instr.nop, .start, .clear, .seekStep, .validate, .emit] → t.acc = s.acc) ∧
    (i ≠ .start → t.latFrom = s.latFrom ∧ t.latTo = s.latTo ∧ t.latBy = s.latBy)

/-- R29, R64: RECORDS is only appended to, by EMIT alone and by the current frame's descriptor, or
emptied, by START, by CLEAR or by a fatal stop. -/
def Obligations.RecordsAreOnlyAppendedOrEmptied : Prop :=
  ∀ (i : Instr) (s t : State), exec i s = .next t →
    t.records = s.records ∨
    t.records = [] ∧ (i = .start ∨ i = .clear ∨ t.fsm = .stopped ∧ t.fatalCode ≠ 0) ∨
    i = .emit ∧ t.records = s.records ++ [⟨s.payStart, s.hdrDsize, s.hdrId⟩]

/-- R23, R62: an Engine step leaves CURSOR or adds 1 to it, adds it only for a byte that is there, and
never passes the end of the stream. -/
def Obligations.EngineStepMovesCursorByAtMostOne : Prop :=
  ∀ (s t : State) (bs : List Byte), s.src = some bs → engineTurn s = .next t →
    (t.cursor = s.cursor ∨ t.cursor = s.cursor + 1 ∧ s.cursor < bs.length) ∧
    (s.cursor ≤ bs.length → t.cursor ≤ bs.length)

/-! ### Host registers -/

/-- R35, R37: what each offset of the register block reads as, and 0 at the reserved offsets. -/
def Obligations.RegisterMapReads : Prop :=
  ∀ s : State,
    readOffset 0x00 s = 0 ∧ readOffset 0x08 s = s.cfgFrom ∧ readOffset 0x0C s = s.cfgTo ∧
    readOffset 0x10 s = s.cfgBy ∧ readOffset 0x14 s = (0 : Half) ++ s.acc ∧
    readOffset 0x18 s = (0 : Half) ++ s.csumData ∧
    (readOffset 0x1C s).toNat = s.cursor % 2 ^ 32 ∧ readOffset 0x20 s = s.recCount ∧
    (readOffset 0x24 s).toNat = s.records.length % 2 ^ 32 ∧
    (readOffset 0x28 s).extractLsb' 0 8 = s.hdrSync ∧
    (readOffset 0x28 s).extractLsb' 8 8 = s.hdrSize ∧
    (readOffset 0x28 s).extractLsb' 16 8 = s.hdrId ∧
    (readOffset 0x28 s).extractLsb' 24 8 = s.hdrFamily ∧
    readOffset 0x2C s = s.hdrDsize ∧
    (readOffset 0x30 s).extractLsb' 0 16 = s.hdrDcsum ∧
    (readOffset 0x30 s).extractLsb' 16 16 = s.hdrHcsum ∧
    readOffset 0x34 s = s.payIdx ∧ readOffset 0x38 s = s.recSel ∧
    ∀ o, 0x48 ≤ o → o ≤ 0xFC → readOffset o s = 0

/-- R36: the fields of STATUS; writes to it are ignored and a read of it changes no register. How the
model presents a host access and keeps what it read are its own (log 2, log 3). -/
def Obligations.StatusFields : Prop :=
  ∀ (s : State) (v : Word), v = readOffset 0x04 s →
    v.extractLsb' 0 3 = fsmCode s.fsm ∧ v.getLsbD 3 = busy s ∧ v.getLsbD 4 = s.resultValid ∧
    v.getLsbD 5 = (s.csumErr || s.trunc) ∧ v.getLsbD 6 = s.csumErr ∧ v.getLsbD 7 = s.trunc ∧
    v.getLsbD 8 = s.cmdErr ∧ v.getLsbD 9 = s.srcOpen ∧ v.extractLsb' 10 2 = 0 ∧
    v.extractLsb' 12 4 = s.fatalCode ∧ v.extractLsb' 16 4 = s.hdrIdx ∧ v.extractLsb' 20 12 = 0 ∧
    (∀ rest, s.turns = .read (.offset 0x04) 4 :: rest → step s = .next
      { s with turns := rest, reads := s.reads ++ [v] }) ∧
    (∀ w rest, s.turns = .write (.offset 0x04) 4 w :: rest → step s = .next { s with turns := rest })

/-- R38: the record readout. -/
def Obligations.RecordReadout : Prop :=
  ∀ s : State,
    (∀ r, s.resultValid = true → s.records[s.recSel.toNat]? = some r →
      (readOffset 0x3C s).toNat = r.offset % 2 ^ 32 ∧ readOffset 0x40 s = r.length ∧
      readOffset 0x44 s = r.id.setWidth 32) ∧
    (s.resultValid = false ∨ s.records.length ≤ s.recSel.toNat →
      readOffset 0x3C s = 0 ∧ readOffset 0x40 s = 0 ∧ readOffset 0x44 s = 0)

/-- R37, R68: a whole-word read in the block returns the register's value and changes no register.
That the host keeps the values it read in a list is the model's (log 3). -/
def Obligations.HostReadHasNoSideEffect : Prop :=
  ∀ (s : State) (o : Nat) (rest : List Turn), o % 4 = 0 → o ≤ 0xFC →
    s.turns = .read (.offset o) 4 :: rest → step s = .next
      { s with turns := rest, reads := s.reads ++ [readOffset o s] }

/-- R35, R37: a write to a read-write register stores the value in any FSM state; a write to a
read-only register or a reserved offset is ignored. -/
def Obligations.HostWriteStoresOrIsIgnored : Prop :=
  ∀ (s s' : State) (o : Nat) (v : Word) (rest : List Turn),
    s.turns = .write (.offset o) 4 v :: rest → s' = { s with turns := rest } →
    (o = 0x08 → step s = .next { s' with cfgFrom := v }) ∧
    (o = 0x0C → step s = .next { s' with cfgTo := v }) ∧
    (o = 0x10 → step s = .next { s' with cfgBy := v }) ∧
    (o = 0x18 → step s = .next { s' with csumData := v.extractLsb' 0 16 }) ∧
    (o = 0x38 → step s = .next { s' with recSel := v }) ∧
    (o % 4 = 0 → o ≤ 0xFC → o ∉ [0x00, 0x08, 0x0C, 0x10, 0x18, 0x38] → step s = .next s')

/-- R67: an access in the block that is not a whole word at a multiple of 4 is refused. That one
outside the block is refused is the model's choice (log 7). -/
def Obligations.OtherAccessesAreRefused : Prop :=
  ∀ (s : State) (o n : Nat) (v : Word) (rest : List Turn),
    s.turns = .read (.offset o) n :: rest ∨ s.turns = .write (.offset o) n v :: rest →
    (o < 0x100 → o % 4 ≠ 0 ∨ n ≠ 4 → step s = .refused .notWholeWord) ∧
    (0x100 ≤ o → step s = .refused .outsideBlock)

/-- R65: BASE_ADDR is a multiple of 0x100, and a bus access at BASE_ADDR + offset is the access at
that offset, for each of the block's offsets. -/
def Obligations.BusAddressesReachTheBlock : Prop :=
  Config.baseAddr % 0x100 = 0 ∧
  (∀ o n, o < 0x100 →
    accessOffset (.bus (Config.baseAddr + o)) n = accessOffset (.offset o) n) ∧
  (∀ a n, a < Config.baseAddr ∨ Config.baseAddr + 0x100 ≤ a →
    accessOffset (.bus a) n = .error .outsideBlock)

/-- R61: the host attaches and detaches only while BUSY = 0; while BUSY = 1 it has no such move. -/
def Obligations.SourceMovesOnlyWhileIdle : Prop :=
  ∀ (s : State) (bs : List Byte) (rest : List Turn),
    (s.turns = .attach bs :: rest → busy s = false →
      step s = .next { s with turns := rest, src := some bs }) ∧
    (s.turns = .detach :: rest → busy s = false →
      step s = .next { s with turns := rest, src := none }) ∧
    (s.turns = .attach bs :: rest ∨ s.turns = .detach :: rest → busy s = true →
      step s = .refused .sourceHeld)

/-- R94: `wait` reads STATUS until STATUS[3] = 0. That one Engine step runs between two polls is the
model's choice of schedule (log 5). -/
def Obligations.WaitPollsStatus : Prop :=
  ∀ (s : State) (rest : List Turn), s.turns = .wait :: rest →
    (busy s = false → step s = .next
      { s with turns := rest, reads := s.reads ++ [readOffset 0x04 s] }) ∧
    (busy s = true → step s = .next
      { s with turns := .engine :: .wait :: rest, reads := s.reads ++ [readOffset 0x04 s] })

/-! ### The checksum law -/

/-- R140: the checksum as the sum of the payload's little-endian words, and as the sum of its bytes by
lane. -/
def Obligations.ChecksumIsWordSumAndLaneSum : Prop :=
  ∀ p : List Byte,
    (checksum p).toNat =
      (0xB58C + ∑ j ∈ Finset.range ((p.length + 1) / 2),
        ((p.getD (2 * j) 0).toNat + 256 * (p.getD (2 * j + 1) 0).toNat)) % 2 ^ 16 ∧
    (checksum p).toNat =
      (0xB58C + ∑ i ∈ Finset.range p.length,
        (p.getD i 0).toNat * (if i % 2 = 1 then 256 else 1)) % 2 ^ 16

/-- R146, consequences (2) and (3): changing one payload byte changes the checksum; adding 1 to byte 0
and taking 1 from byte 2 does not. -/
def Obligations.ChecksumSeesOneByteNotTwo : Prop :=
  (∀ (p : List Byte) (i : Nat) (b c : Byte), p[i]? = some c → b ≠ c →
    checksum (p.set i b) ≠ checksum p) ∧
  (∀ (p0 p1 p2 : Byte) (rest : List Byte), p0 ≠ 0xFF → p2 ≠ 0x00 →
    checksum ((p0 + 1) :: p1 :: (p2 - 1) :: rest) = checksum (p0 :: p1 :: p2 :: rest))

/-! ### Whole scans -/

/-- R113: with the first sync byte `m` positions after CURSOR, SEEKING takes exactly `m + 1` steps; with
none it takes as many as there are bytes left, and one more. -/
def Obligations.SeekingTakesSkippedBytesPlusOne : Prop :=
  (∀ (s : State) (bs : List Byte), s.fsm = .seeking → s.src = some bs → s.cursor ≤ bs.length →
    0xA5 ∉ bs.drop s.cursor →
    engineRun (bs.length - s.cursor + 1) s = .next
      { s with
        cursor := bs.length, fatalCode := 1, resultValid := false, records := [], csumErr := false
        trunc := false, srcOpen := false, fsm := .stopped }) ∧
  ∀ (s : State) (bs : List Byte) (m : Nat), s.fsm = .seeking → s.src = some bs →
    bs[s.cursor + m]? = some 0xA5 → (∀ j < m, bs[s.cursor + j]? ≠ some 0xA5) →
    (∀ k ≤ m, engineRun k s = .next { s with cursor := s.cursor + k }) ∧
    engineRun (m + 1) s = .next { s with cursor := s.cursor + m, hdrIdx := 0, fsm := .decHdr }

/-- R110, R113, R201: a stream without a sync byte ends the scan with NoSyncFound and no result. -/
def Obligations.StreamWithoutSyncIsFatal : Prop :=
  ∀ (first last stride : Word) (bs : List Byte),
    0 < first.toInt → 0 ≤ last.toInt → 0 < stride.toInt → bs.length < 2 ^ 32 → 0xA5 ∉ bs →
    scan first last stride (some bs) = .fatal 1

/-- R83, R120 to R126, R142, R143, R161: one whole frame, from the first byte of its header to the
step after its EMIT, in S + DataSize + 3 Engine steps. -/
def Obligations.WholeFrameIsDecodedAndIndexed : Prop :=
  ∀ (s : State) (bs rest : List Byte) (h : Header) (size n : Nat) (payload : List Byte)
    (recs : List Descriptor) (t : State),
    s.fsm = .decHdr → s.hdrIdx = 0 → s.src = some bs → 1 ≤ s.latBy →
    (decodeHeader (bs.drop s.cursor) = .ok (.hdr10 h, rest) ∧ size = 10 ∨
      decodeHeader (bs.drop s.cursor) = .ok (.hdr12 h, rest) ∧ size = 12) →
    h.dsize.toNat ≤ rest.length → payload = rest.take h.dsize.toNat → n = s.recCount.toNat + 1 →
    recs = (if s.latFrom ≤ n ∧ (n - s.latFrom) % s.latBy = 0 then
      s.records ++ [⟨s.cursor + size, h.dsize, h.id⟩] else s.records) →
    t = { s with
      hdrSync := 0xA5, hdrSize := BitVec.ofNat 8 size, hdrId := h.id, hdrFamily := h.family
      hdrDsize := h.dsize, hdrDcsum := h.dcsum, hdrHcsum := h.hcsum
      cursor := s.cursor + size + h.dsize.toNat
      acc := checksum payload, payIdx := h.dsize, payStart := s.cursor + size
      csumErr := s.csumErr || decide (checksum payload ≠ h.dcsum)
      recCount := BitVec.ofNat 32 n, records := recs } →
    (¬(s.latTo ≠ 0 ∧ n = s.latTo) →
      engineRun (size + h.dsize.toNat + 3) s = .next { t with hdrIdx := 0, fsm := .decHdr }) ∧
    (s.latTo ≠ 0 ∧ n = s.latTo →
      engineRun (size + h.dsize.toNat + 3) s = .next
        { t with
          hdrIdx := BitVec.ofNat 4 size
          resultValid := true, fatalCode := 0, srcOpen := false, fsm := .stopped })

/-- R120 to R124, R142: a frame whose payload runs past the end of the stream stops the scan with
TRUNC and a result, the frame itself neither counted nor recorded. -/
def Obligations.TruncatedFrameStopsWithResult : Prop :=
  ∀ (s : State) (bs rest : List Byte) (h : Header) (size : Nat),
    s.fsm = .decHdr → s.hdrIdx = 0 → s.src = some bs →
    (decodeHeader (bs.drop s.cursor) = .ok (.hdr10 h, rest) ∧ size = 10 ∨
      decodeHeader (bs.drop s.cursor) = .ok (.hdr12 h, rest) ∧ size = 12) →
    rest.length < h.dsize.toNat →
    engineRun (size + rest.length + 1) s = .next
      { s with
        hdrSync := 0xA5, hdrSize := BitVec.ofNat 8 size, hdrId := h.id, hdrFamily := h.family
        hdrDsize := h.dsize, hdrDcsum := h.dcsum, hdrHcsum := h.hcsum
        hdrIdx := BitVec.ofNat 4 size, cursor := s.cursor + size + rest.length
        acc := checksum rest, payIdx := BitVec.ofNat 32 rest.length, payStart := s.cursor + size
        trunc := true, resultValid := true, fatalCode := 0, srcOpen := false, fsm := .stopped }

/-- R111, R127, R161, R162, R165, R188: a scan without limit over back-to-back whole frames behind a
prefix without sync byte gives exactly the selected frames' descriptors, CSUM_ERR when some frame's
payload does not sum to its declared checksum, and no truncation. -/
def Obligations.ScanOfWholeFramesGivesTheirRecords : Prop :=
  ∀ (first stride : Word) (skipped : List Byte) (fs : List Frame),
    0 < first.toInt → 0 < stride.toInt → 0xA5 ∉ skipped → fs ≠ [] →
    (∀ f ∈ fs, frameWf f = true) → (skipped ++ streamBytes fs).length < 2 ^ 32 →
    scan first 0 stride (some (skipped ++ streamBytes fs)) =
      .result
        ((((streamRecords skipped.length fs).zipIdx 1).filter
          fun r => selected first.toNat stride.toNat r.2).map Prod.fst)
        (fs.any frameMismatch) false

/-- R189, the exact count: over K whole frames (K at least 1) with nothing before them and no limit, a
scan is busy for L + 3K + 2 Engine steps and stopped after them. -/
def Obligations.ScanOfWholeFramesTakesExactSteps : Prop :=
  ∀ (s s1 : State) (fs : List Frame) (n : Nat), busy s = false → fs ≠ [] →
    (∀ f ∈ fs, frameWf f = true) → s.src = some (streamBytes fs) → s.cfgTo = 0 →
    exec .start s = .next s1 → s1.fsm = .seeking →
    n = (streamBytes fs).length + 3 * fs.length + 2 →
    (∀ k < n, ∃ t, engineRun k s1 = .next t ∧ busy t = true) ∧
    ∃ t, engineRun n s1 = .next t ∧ t.fsm = .stopped ∧ t.resultValid = true

/-- R189: every scan reaches STOPPED within L + 3 * floor(L / 10) + 2 Engine steps. -/
def Obligations.EveryScanTerminates : Prop :=
  ∀ s s1 : State, busy s = false → exec .start s = .next s1 →
    ∃ t, engineRun (sourceLength s + 3 * (sourceLength s / 10) + 2) s1 = .next t ∧
      t.fsm = .stopped

/-! ### Interleaving -/

/-- R180: a whole-word register access of the host while BUSY = 1 changes nothing that a scan reads or
reports, and the engine stays busy. -/
def Obligations.BusyHostAccessLeavesScan : Prop :=
  ∀ (s : State) (t : Turn) (rest : List Turn), busy s = true → s.turns = t :: rest →
    enabledWhileBusy t = true → t ≠ .engine →
    ∃ u, step s = .next u ∧ scanView u = scanView s ∧ busy u = true ∧ u.turns = rest

/-- R180: an Engine step reads and writes only what a scan depends on. What it writes there does not
depend on the rest, and it leaves the rest: CFG_*, CSUM_DATA, REC_SEL, CMD_ERR (R30, R33, R34) and the
model's own `turns` and `reads` (log 2, log 3). -/
def Obligations.EngineStepDependsOnScanOnly : Prop :=
  (∀ s t s' : State, scanView s = scanView t → engineTurn s = .next s' →
    ∃ t', engineTurn t = .next t' ∧ scanView t' = scanView s') ∧
  (∀ s s' : State, engineTurn s = .next s' →
    s'.cfgFrom = s.cfgFrom ∧ s'.cfgTo = s.cfgTo ∧ s'.cfgBy = s.cfgBy ∧
    s'.csumData = s.csumData ∧ s'.recSel = s.recSel ∧ s'.cmdErr = s.cmdErr ∧
    s'.turns = s.turns ∧ s'.reads = s.reads)

/-- R180, R190: the outcome of a scan does not depend on the interleaving. Whatever turns enabled
while BUSY = 1 the schedule holds, the outcome at the step that stops the scan is that of the Engine
steps alone. -/
def Obligations.ScanOutcomeIgnoresInterleaving : Prop :=
  ∀ (s s1 v : State) (ts : List Turn), busy s = false → exec .start s = .next s1 →
    (∀ t ∈ ts, enabledWhileBusy t = true) →
    (∀ k ≤ ts.length, ∀ u,
      Host.Core.run Sys2Proof.core k { s1 with turns := ts ++ [.engine] } = .next u →
      busy u = true) →
    Host.Core.run Sys2Proof.core (ts.length + 1) { s1 with turns := ts ++ [.engine] } = .next v →
    v.fsm = .stopped →
    outcomeOf v = scanFrom s
end

