-- ==== Sys2Proof/Laws/Bytes.lean ====
section
/-! SUPPORT. Byte order (R66): how bytes assemble into values and values come apart into bytes. -/

namespace Sys2Proof

/-- Bit `i` of two assembled bytes. -/
theorem getLsbD_half (a b : Byte) (i : Nat) :
    (half a b).getLsbD i = if i < 8 then a.getLsbD i else b.getLsbD (i - 8) := by
  unfold half
  rw [BitVec.getLsbD_append]

/-- Bit `i` of four assembled bytes. -/
theorem getLsbD_word (a b c d : Byte) (i : Nat) :
    (word a b c d).getLsbD i =
      if i < 8 then a.getLsbD i else if i < 16 then b.getLsbD (i - 8)
      else if i < 24 then c.getLsbD (i - 16) else d.getLsbD (i - 24) := by
  unfold word
  rw [BitVec.getLsbD_append, BitVec.getLsbD_append, BitVec.getLsbD_append, Nat.sub_sub, Nat.sub_sub]
  by_cases h : i < 8
  · simp [h]
  · by_cases h2 : i < 16
    · simp [h, h2, show i - 8 < 8 by omega]
    · by_cases h3 : i < 24
      · simp [h, h2, h3, show ¬ i - 8 < 8 by omega, show i - (8 + 8) < 8 by omega]
      · simp [h, h2, h3, show ¬ i - 8 < 8 by omega, show ¬ i - (8 + 8) < 8 by omega]

/-- Bit `i` of byte `j` of a value. -/
theorem getLsbD_byteAt {w : Nat} (v : BitVec w) (j i : Nat) :
    (byteAt v j).getLsbD i = (decide (i < 8) && v.getLsbD (8 * j + i)) := by
  simp [byteAt]

/-- The two bytes of a 16-bit value assemble to it. -/
theorem half_byteAt (v : Half) : half (byteAt v 0) (byteAt v 1) = v := by
  apply BitVec.eq_of_getLsbD_eq
  intro i hi
  have hi' : i < 16 := hi
  rw [getLsbD_half, getLsbD_byteAt, getLsbD_byteAt]
  split
  · simp [*]
  · simp [show i - 8 < 8 by omega, show 8 + (i - 8) = i by omega]

/-- The four bytes of a 32-bit value assemble to it. -/
theorem word_byteAt (v : Word) : word (byteAt v 0) (byteAt v 1) (byteAt v 2) (byteAt v 3) = v := by
  apply BitVec.eq_of_getLsbD_eq
  intro i hi
  have hi' : i < 32 := hi
  simp only [getLsbD_word, getLsbD_byteAt]
  split
  · simp [*]
  · split
    · simp [show i - 8 < 8 by omega, show 8 + (i - 8) = i by omega]
    · split
      · simp [show i - 16 < 8 by omega, show 8 * 2 + (i - 16) = i by omega]
      · simp [show i - 24 < 8 by omega, show 8 * 3 + (i - 24) = i by omega]

/-- The low byte of two assembled bytes. -/
@[simp] theorem byteAt_half_low (a b : Byte) : byteAt (half a b) 0 = a := by
  apply BitVec.eq_of_getLsbD_eq
  intro i hi
  have hi' : i < 8 := hi
  rw [getLsbD_byteAt, getLsbD_half]
  simp [hi']

/-- The high byte of two assembled bytes. -/
@[simp] theorem byteAt_half_high (a b : Byte) : byteAt (half a b) 1 = b := by
  apply BitVec.eq_of_getLsbD_eq
  intro i hi
  have hi' : i < 8 := hi
  rw [getLsbD_byteAt, getLsbD_half]
  simp [hi']

/-- Each byte of four assembled bytes. -/
theorem byteAt_word (a b c d : Byte) :
    byteAt (word a b c d) 0 = a ∧ byteAt (word a b c d) 1 = b ∧
    byteAt (word a b c d) 2 = c ∧ byteAt (word a b c d) 3 = d := by
  refine ⟨?_, ?_, ?_, ?_⟩ <;>
  · apply BitVec.eq_of_getLsbD_eq
    intro i hi
    have hi' : i < 8 := hi
    rw [getLsbD_byteAt, getLsbD_word]
    simp [hi', show ¬ 8 + i < 8 by omega, show 8 + i < 16 by omega, show ¬ 16 + i < 8 by omega,
      show ¬ 16 + i < 16 by omega, show 16 + i < 24 by omega, show ¬ 24 + i < 8 by omega,
      show ¬ 24 + i < 16 by omega, show ¬ 24 + i < 24 by omega]

/-- A zero-extended value has the low bytes of the value. -/
theorem byteAt_setWidth (v : Half) (j : Nat) (hj : j < 2) :
    byteAt (v.setWidth 32) j = byteAt v j := by
  apply BitVec.eq_of_getLsbD_eq
  intro i hi
  have hi' : i < 8 := hi
  simp only [getLsbD_byteAt, BitVec.getLsbD_setWidth, hi', decide_true, Bool.true_and]
  simp [show 8 * j + i < 32 by omega]

/-- The two low bytes of a 32-bit value below 2^16 assemble to it. -/
theorem half_byteAt_small (v : Word) (h : v.toNat < 2 ^ 16) :
    (half (byteAt v 0) (byteAt v 1)).setWidth 32 = v := by
  apply BitVec.eq_of_getLsbD_eq
  intro i hi
  rw [BitVec.getLsbD_setWidth, getLsbD_half, getLsbD_byteAt, getLsbD_byteAt]
  by_cases h1 : i < 8
  · simp [h1, hi]
  · by_cases h2 : i < 16
    · simp [h1, hi, show i - 8 < 8 by omega, show 8 + (i - 8) = i by omega]
    · have hv : v.getLsbD i = false := by
        rw [BitVec.getLsbD]
        exact Nat.testBit_lt_two_pow (lt_of_lt_of_le h (Nat.pow_le_pow_right (by omega) (by omega)))
      simp [h1, hv, show ¬ i - 8 < 8 by omega]

/-- Two bytes as a number. -/
theorem toNat_append_byte (a b : Byte) : (a ++ b).toNat = 256 * a.toNat + b.toNat := by
  rw [BitVec.toNat_append, ← Nat.shiftLeft_add_eq_or_of_lt b.isLt, Nat.shiftLeft_eq]
  omega

end Sys2Proof
end

