-- ==== Sys2Proof/Laws/State.lean ====
section
/-! SUPPORT. One lemma per field for each named update of the state, so that no proof unfolds a record
update. An update's own fields read as it writes them, every other field as before. -/

namespace Sys2Proof.Machine

/-! `stopFatal` -/

@[simp] theorem stopFatal_fsm (e : FatalError) (s : State) : (stopFatal e s).fsm = .stopped := rfl
@[simp] theorem stopFatal_cursor (e : FatalError) (s : State) :
    (stopFatal e s).cursor = s.cursor := rfl
@[simp] theorem stopFatal_acc (e : FatalError) (s : State) : (stopFatal e s).acc = s.acc := rfl
@[simp] theorem stopFatal_hdrSync (e : FatalError) (s : State) :
    (stopFatal e s).hdrSync = s.hdrSync := rfl
@[simp] theorem stopFatal_hdrSize (e : FatalError) (s : State) :
    (stopFatal e s).hdrSize = s.hdrSize := rfl
@[simp] theorem stopFatal_hdrId (e : FatalError) (s : State) :
    (stopFatal e s).hdrId = s.hdrId := rfl
@[simp] theorem stopFatal_hdrFamily (e : FatalError) (s : State) :
    (stopFatal e s).hdrFamily = s.hdrFamily := rfl
@[simp] theorem stopFatal_hdrDsize (e : FatalError) (s : State) :
    (stopFatal e s).hdrDsize = s.hdrDsize := rfl
@[simp] theorem stopFatal_hdrDcsum (e : FatalError) (s : State) :
    (stopFatal e s).hdrDcsum = s.hdrDcsum := rfl
@[simp] theorem stopFatal_hdrHcsum (e : FatalError) (s : State) :
    (stopFatal e s).hdrHcsum = s.hdrHcsum := rfl
@[simp] theorem stopFatal_hdrIdx (e : FatalError) (s : State) :
    (stopFatal e s).hdrIdx = s.hdrIdx := rfl
@[simp] theorem stopFatal_payIdx (e : FatalError) (s : State) :
    (stopFatal e s).payIdx = s.payIdx := rfl
@[simp] theorem stopFatal_payStart (e : FatalError) (s : State) :
    (stopFatal e s).payStart = s.payStart := rfl
@[simp] theorem stopFatal_recCount (e : FatalError) (s : State) :
    (stopFatal e s).recCount = s.recCount := rfl
@[simp] theorem stopFatal_records (e : FatalError) (s : State) : (stopFatal e s).records = [] := rfl
@[simp] theorem stopFatal_csumErr (e : FatalError) (s : State) :
    (stopFatal e s).csumErr = false := rfl
@[simp] theorem stopFatal_trunc (e : FatalError) (s : State) : (stopFatal e s).trunc = false := rfl
@[simp] theorem stopFatal_cmdErr (e : FatalError) (s : State) :
    (stopFatal e s).cmdErr = s.cmdErr := rfl
@[simp] theorem stopFatal_resultValid (e : FatalError) (s : State) :
    (stopFatal e s).resultValid = false := rfl
@[simp] theorem stopFatal_fatalCode (e : FatalError) (s : State) :
    (stopFatal e s).fatalCode = fatalNumber e := rfl
@[simp] theorem stopFatal_srcOpen (e : FatalError) (s : State) :
    (stopFatal e s).srcOpen = false := rfl
@[simp] theorem stopFatal_cfgFrom (e : FatalError) (s : State) :
    (stopFatal e s).cfgFrom = s.cfgFrom := rfl
@[simp] theorem stopFatal_cfgTo (e : FatalError) (s : State) :
    (stopFatal e s).cfgTo = s.cfgTo := rfl
@[simp] theorem stopFatal_cfgBy (e : FatalError) (s : State) :
    (stopFatal e s).cfgBy = s.cfgBy := rfl
@[simp] theorem stopFatal_latFrom (e : FatalError) (s : State) :
    (stopFatal e s).latFrom = s.latFrom := rfl
@[simp] theorem stopFatal_latTo (e : FatalError) (s : State) :
    (stopFatal e s).latTo = s.latTo := rfl
@[simp] theorem stopFatal_latBy (e : FatalError) (s : State) :
    (stopFatal e s).latBy = s.latBy := rfl
@[simp] theorem stopFatal_csumData (e : FatalError) (s : State) :
    (stopFatal e s).csumData = s.csumData := rfl
@[simp] theorem stopFatal_recSel (e : FatalError) (s : State) :
    (stopFatal e s).recSel = s.recSel := rfl
@[simp] theorem stopFatal_src (e : FatalError) (s : State) : (stopFatal e s).src = s.src := rfl
@[simp] theorem stopFatal_turns (e : FatalError) (s : State) :
    (stopFatal e s).turns = s.turns := rfl
@[simp] theorem stopFatal_reads (e : FatalError) (s : State) :
    (stopFatal e s).reads = s.reads := rfl

/-! `stopDone` -/

@[simp] theorem stopDone_fsm (s : State) : (stopDone s).fsm = .stopped := rfl
@[simp] theorem stopDone_cursor (s : State) : (stopDone s).cursor = s.cursor := rfl
@[simp] theorem stopDone_acc (s : State) : (stopDone s).acc = s.acc := rfl
@[simp] theorem stopDone_hdrSync (s : State) : (stopDone s).hdrSync = s.hdrSync := rfl
@[simp] theorem stopDone_hdrSize (s : State) : (stopDone s).hdrSize = s.hdrSize := rfl
@[simp] theorem stopDone_hdrId (s : State) : (stopDone s).hdrId = s.hdrId := rfl
@[simp] theorem stopDone_hdrFamily (s : State) : (stopDone s).hdrFamily = s.hdrFamily := rfl
@[simp] theorem stopDone_hdrDsize (s : State) : (stopDone s).hdrDsize = s.hdrDsize := rfl
@[simp] theorem stopDone_hdrDcsum (s : State) : (stopDone s).hdrDcsum = s.hdrDcsum := rfl
@[simp] theorem stopDone_hdrHcsum (s : State) : (stopDone s).hdrHcsum = s.hdrHcsum := rfl
@[simp] theorem stopDone_hdrIdx (s : State) : (stopDone s).hdrIdx = s.hdrIdx := rfl
@[simp] theorem stopDone_payIdx (s : State) : (stopDone s).payIdx = s.payIdx := rfl
@[simp] theorem stopDone_payStart (s : State) : (stopDone s).payStart = s.payStart := rfl
@[simp] theorem stopDone_recCount (s : State) : (stopDone s).recCount = s.recCount := rfl
@[simp] theorem stopDone_records (s : State) : (stopDone s).records = s.records := rfl
@[simp] theorem stopDone_csumErr (s : State) : (stopDone s).csumErr = s.csumErr := rfl
@[simp] theorem stopDone_trunc (s : State) : (stopDone s).trunc = s.trunc := rfl
@[simp] theorem stopDone_cmdErr (s : State) : (stopDone s).cmdErr = s.cmdErr := rfl
@[simp] theorem stopDone_resultValid (s : State) : (stopDone s).resultValid = true := rfl
@[simp] theorem stopDone_fatalCode (s : State) : (stopDone s).fatalCode = 0 := rfl
@[simp] theorem stopDone_srcOpen (s : State) : (stopDone s).srcOpen = false := rfl
@[simp] theorem stopDone_cfgFrom (s : State) : (stopDone s).cfgFrom = s.cfgFrom := rfl
@[simp] theorem stopDone_cfgTo (s : State) : (stopDone s).cfgTo = s.cfgTo := rfl
@[simp] theorem stopDone_cfgBy (s : State) : (stopDone s).cfgBy = s.cfgBy := rfl
@[simp] theorem stopDone_latFrom (s : State) : (stopDone s).latFrom = s.latFrom := rfl
@[simp] theorem stopDone_latTo (s : State) : (stopDone s).latTo = s.latTo := rfl
@[simp] theorem stopDone_latBy (s : State) : (stopDone s).latBy = s.latBy := rfl
@[simp] theorem stopDone_csumData (s : State) : (stopDone s).csumData = s.csumData := rfl
@[simp] theorem stopDone_recSel (s : State) : (stopDone s).recSel = s.recSel := rfl
@[simp] theorem stopDone_src (s : State) : (stopDone s).src = s.src := rfl
@[simp] theorem stopDone_turns (s : State) : (stopDone s).turns = s.turns := rfl
@[simp] theorem stopDone_reads (s : State) : (stopDone s).reads = s.reads := rfl

/-! `clearScan` -/

@[simp] theorem clearScan_fsm (s : State) : (clearScan s).fsm = s.fsm := rfl
@[simp] theorem clearScan_cursor (s : State) : (clearScan s).cursor = 0 := rfl
@[simp] theorem clearScan_acc (s : State) : (clearScan s).acc = s.acc := rfl
@[simp] theorem clearScan_hdrSync (s : State) : (clearScan s).hdrSync = 0 := rfl
@[simp] theorem clearScan_hdrSize (s : State) : (clearScan s).hdrSize = 0 := rfl
@[simp] theorem clearScan_hdrId (s : State) : (clearScan s).hdrId = 0 := rfl
@[simp] theorem clearScan_hdrFamily (s : State) : (clearScan s).hdrFamily = 0 := rfl
@[simp] theorem clearScan_hdrDsize (s : State) : (clearScan s).hdrDsize = 0 := rfl
@[simp] theorem clearScan_hdrDcsum (s : State) : (clearScan s).hdrDcsum = 0 := rfl
@[simp] theorem clearScan_hdrHcsum (s : State) : (clearScan s).hdrHcsum = 0 := rfl
@[simp] theorem clearScan_hdrIdx (s : State) : (clearScan s).hdrIdx = 0 := rfl
@[simp] theorem clearScan_payIdx (s : State) : (clearScan s).payIdx = 0 := rfl
@[simp] theorem clearScan_payStart (s : State) : (clearScan s).payStart = 0 := rfl
@[simp] theorem clearScan_recCount (s : State) : (clearScan s).recCount = 0 := rfl
@[simp] theorem clearScan_records (s : State) : (clearScan s).records = [] := rfl
@[simp] theorem clearScan_csumErr (s : State) : (clearScan s).csumErr = false := rfl
@[simp] theorem clearScan_trunc (s : State) : (clearScan s).trunc = false := rfl
@[simp] theorem clearScan_cmdErr (s : State) : (clearScan s).cmdErr = false := rfl
@[simp] theorem clearScan_resultValid (s : State) : (clearScan s).resultValid = false := rfl
@[simp] theorem clearScan_fatalCode (s : State) : (clearScan s).fatalCode = 0 := rfl
@[simp] theorem clearScan_srcOpen (s : State) : (clearScan s).srcOpen = s.srcOpen := rfl
@[simp] theorem clearScan_cfgFrom (s : State) : (clearScan s).cfgFrom = s.cfgFrom := rfl
@[simp] theorem clearScan_cfgTo (s : State) : (clearScan s).cfgTo = s.cfgTo := rfl
@[simp] theorem clearScan_cfgBy (s : State) : (clearScan s).cfgBy = s.cfgBy := rfl
@[simp] theorem clearScan_latFrom (s : State) : (clearScan s).latFrom = s.latFrom := rfl
@[simp] theorem clearScan_latTo (s : State) : (clearScan s).latTo = s.latTo := rfl
@[simp] theorem clearScan_latBy (s : State) : (clearScan s).latBy = s.latBy := rfl
@[simp] theorem clearScan_csumData (s : State) : (clearScan s).csumData = s.csumData := rfl
@[simp] theorem clearScan_recSel (s : State) : (clearScan s).recSel = s.recSel := rfl
@[simp] theorem clearScan_src (s : State) : (clearScan s).src = s.src := rfl
@[simp] theorem clearScan_turns (s : State) : (clearScan s).turns = s.turns := rfl
@[simp] theorem clearScan_reads (s : State) : (clearScan s).reads = s.reads := rfl

/-! `latchHeader` -/

@[simp] theorem latchHeader_fsm (h : Header) (s : State) : (latchHeader h s).fsm = s.fsm := rfl
@[simp] theorem latchHeader_cursor (h : Header) (s : State) :
    (latchHeader h s).cursor = s.cursor := rfl
@[simp] theorem latchHeader_acc (h : Header) (s : State) : (latchHeader h s).acc = s.acc := rfl
@[simp] theorem latchHeader_hdrSync (h : Header) (s : State) :
    (latchHeader h s).hdrSync = h.sync := rfl
@[simp] theorem latchHeader_hdrSize (h : Header) (s : State) :
    (latchHeader h s).hdrSize = h.size := rfl
@[simp] theorem latchHeader_hdrId (h : Header) (s : State) : (latchHeader h s).hdrId = h.id := rfl
@[simp] theorem latchHeader_hdrFamily (h : Header) (s : State) :
    (latchHeader h s).hdrFamily = h.family := rfl
@[simp] theorem latchHeader_hdrDsize (h : Header) (s : State) :
    (latchHeader h s).hdrDsize = h.dsize := rfl
@[simp] theorem latchHeader_hdrDcsum (h : Header) (s : State) :
    (latchHeader h s).hdrDcsum = h.dcsum := rfl
@[simp] theorem latchHeader_hdrHcsum (h : Header) (s : State) :
    (latchHeader h s).hdrHcsum = h.hcsum := rfl
@[simp] theorem latchHeader_hdrIdx (h : Header) (s : State) :
    (latchHeader h s).hdrIdx = s.hdrIdx := rfl
@[simp] theorem latchHeader_payIdx (h : Header) (s : State) :
    (latchHeader h s).payIdx = s.payIdx := rfl
@[simp] theorem latchHeader_payStart (h : Header) (s : State) :
    (latchHeader h s).payStart = s.payStart := rfl
@[simp] theorem latchHeader_recCount (h : Header) (s : State) :
    (latchHeader h s).recCount = s.recCount := rfl
@[simp] theorem latchHeader_records (h : Header) (s : State) :
    (latchHeader h s).records = s.records := rfl
@[simp] theorem latchHeader_csumErr (h : Header) (s : State) :
    (latchHeader h s).csumErr = s.csumErr := rfl
@[simp] theorem latchHeader_trunc (h : Header) (s : State) :
    (latchHeader h s).trunc = s.trunc := rfl
@[simp] theorem latchHeader_cmdErr (h : Header) (s : State) :
    (latchHeader h s).cmdErr = s.cmdErr := rfl
@[simp] theorem latchHeader_resultValid (h : Header) (s : State) :
    (latchHeader h s).resultValid = s.resultValid := rfl
@[simp] theorem latchHeader_fatalCode (h : Header) (s : State) :
    (latchHeader h s).fatalCode = s.fatalCode := rfl
@[simp] theorem latchHeader_srcOpen (h : Header) (s : State) :
    (latchHeader h s).srcOpen = s.srcOpen := rfl
@[simp] theorem latchHeader_cfgFrom (h : Header) (s : State) :
    (latchHeader h s).cfgFrom = s.cfgFrom := rfl
@[simp] theorem latchHeader_cfgTo (h : Header) (s : State) :
    (latchHeader h s).cfgTo = s.cfgTo := rfl
@[simp] theorem latchHeader_cfgBy (h : Header) (s : State) :
    (latchHeader h s).cfgBy = s.cfgBy := rfl
@[simp] theorem latchHeader_latFrom (h : Header) (s : State) :
    (latchHeader h s).latFrom = s.latFrom := rfl
@[simp] theorem latchHeader_latTo (h : Header) (s : State) :
    (latchHeader h s).latTo = s.latTo := rfl
@[simp] theorem latchHeader_latBy (h : Header) (s : State) :
    (latchHeader h s).latBy = s.latBy := rfl
@[simp] theorem latchHeader_csumData (h : Header) (s : State) :
    (latchHeader h s).csumData = s.csumData := rfl
@[simp] theorem latchHeader_recSel (h : Header) (s : State) :
    (latchHeader h s).recSel = s.recSel := rfl
@[simp] theorem latchHeader_src (h : Header) (s : State) : (latchHeader h s).src = s.src := rfl
@[simp] theorem latchHeader_turns (h : Header) (s : State) :
    (latchHeader h s).turns = s.turns := rfl
@[simp] theorem latchHeader_reads (h : Header) (s : State) :
    (latchHeader h s).reads = s.reads := rfl

/-! `completeHeader` -/

@[simp] theorem completeHeader_fsm (s : State) : (completeHeader s).fsm = .readPay := rfl
@[simp] theorem completeHeader_cursor (s : State) : (completeHeader s).cursor = s.cursor := rfl
@[simp] theorem completeHeader_acc (s : State) : (completeHeader s).acc = Config.seed := rfl
@[simp] theorem completeHeader_hdrSync (s : State) : (completeHeader s).hdrSync = s.hdrSync := rfl
@[simp] theorem completeHeader_hdrSize (s : State) : (completeHeader s).hdrSize = s.hdrSize := rfl
@[simp] theorem completeHeader_hdrId (s : State) : (completeHeader s).hdrId = s.hdrId := rfl
@[simp] theorem completeHeader_hdrFamily (s : State) :
    (completeHeader s).hdrFamily = s.hdrFamily := rfl
@[simp] theorem completeHeader_hdrDsize (s : State) :
    (completeHeader s).hdrDsize = s.hdrDsize := rfl
@[simp] theorem completeHeader_hdrDcsum (s : State) :
    (completeHeader s).hdrDcsum = s.hdrDcsum := rfl
@[simp] theorem completeHeader_hdrHcsum (s : State) :
    (completeHeader s).hdrHcsum = s.hdrHcsum := rfl
@[simp] theorem completeHeader_hdrIdx (s : State) : (completeHeader s).hdrIdx = s.hdrIdx := rfl
@[simp] theorem completeHeader_payIdx (s : State) : (completeHeader s).payIdx = 0 := rfl
@[simp] theorem completeHeader_payStart (s : State) : (completeHeader s).payStart = s.cursor := rfl
@[simp] theorem completeHeader_recCount (s : State) :
    (completeHeader s).recCount = s.recCount := rfl
@[simp] theorem completeHeader_records (s : State) : (completeHeader s).records = s.records := rfl
@[simp] theorem completeHeader_csumErr (s : State) : (completeHeader s).csumErr = s.csumErr := rfl
@[simp] theorem completeHeader_trunc (s : State) : (completeHeader s).trunc = s.trunc := rfl
@[simp] theorem completeHeader_cmdErr (s : State) : (completeHeader s).cmdErr = s.cmdErr := rfl
@[simp] theorem completeHeader_resultValid (s : State) :
    (completeHeader s).resultValid = s.resultValid := rfl
@[simp] theorem completeHeader_fatalCode (s : State) :
    (completeHeader s).fatalCode = s.fatalCode := rfl
@[simp] theorem completeHeader_srcOpen (s : State) : (completeHeader s).srcOpen = s.srcOpen := rfl
@[simp] theorem completeHeader_cfgFrom (s : State) : (completeHeader s).cfgFrom = s.cfgFrom := rfl
@[simp] theorem completeHeader_cfgTo (s : State) : (completeHeader s).cfgTo = s.cfgTo := rfl
@[simp] theorem completeHeader_cfgBy (s : State) : (completeHeader s).cfgBy = s.cfgBy := rfl
@[simp] theorem completeHeader_latFrom (s : State) : (completeHeader s).latFrom = s.latFrom := rfl
@[simp] theorem completeHeader_latTo (s : State) : (completeHeader s).latTo = s.latTo := rfl
@[simp] theorem completeHeader_latBy (s : State) : (completeHeader s).latBy = s.latBy := rfl
@[simp] theorem completeHeader_csumData (s : State) :
    (completeHeader s).csumData = s.csumData := rfl
@[simp] theorem completeHeader_recSel (s : State) : (completeHeader s).recSel = s.recSel := rfl
@[simp] theorem completeHeader_src (s : State) : (completeHeader s).src = s.src := rfl
@[simp] theorem completeHeader_turns (s : State) : (completeHeader s).turns = s.turns := rfl
@[simp] theorem completeHeader_reads (s : State) : (completeHeader s).reads = s.reads := rfl

/-! `addAcc` -/

@[simp] theorem addAcc_fsm (w : Half) (s : State) : (addAcc w s).fsm = s.fsm := rfl
@[simp] theorem addAcc_cursor (w : Half) (s : State) : (addAcc w s).cursor = s.cursor := rfl
@[simp] theorem addAcc_acc (w : Half) (s : State) : (addAcc w s).acc = s.acc + w := rfl
@[simp] theorem addAcc_hdrSync (w : Half) (s : State) : (addAcc w s).hdrSync = s.hdrSync := rfl
@[simp] theorem addAcc_hdrSize (w : Half) (s : State) : (addAcc w s).hdrSize = s.hdrSize := rfl
@[simp] theorem addAcc_hdrId (w : Half) (s : State) : (addAcc w s).hdrId = s.hdrId := rfl
@[simp] theorem addAcc_hdrFamily (w : Half) (s : State) :
    (addAcc w s).hdrFamily = s.hdrFamily := rfl
@[simp] theorem addAcc_hdrDsize (w : Half) (s : State) : (addAcc w s).hdrDsize = s.hdrDsize := rfl
@[simp] theorem addAcc_hdrDcsum (w : Half) (s : State) : (addAcc w s).hdrDcsum = s.hdrDcsum := rfl
@[simp] theorem addAcc_hdrHcsum (w : Half) (s : State) : (addAcc w s).hdrHcsum = s.hdrHcsum := rfl
@[simp] theorem addAcc_hdrIdx (w : Half) (s : State) : (addAcc w s).hdrIdx = s.hdrIdx := rfl
@[simp] theorem addAcc_payIdx (w : Half) (s : State) : (addAcc w s).payIdx = s.payIdx := rfl
@[simp] theorem addAcc_payStart (w : Half) (s : State) : (addAcc w s).payStart = s.payStart := rfl
@[simp] theorem addAcc_recCount (w : Half) (s : State) : (addAcc w s).recCount = s.recCount := rfl
@[simp] theorem addAcc_records (w : Half) (s : State) : (addAcc w s).records = s.records := rfl
@[simp] theorem addAcc_csumErr (w : Half) (s : State) : (addAcc w s).csumErr = s.csumErr := rfl
@[simp] theorem addAcc_trunc (w : Half) (s : State) : (addAcc w s).trunc = s.trunc := rfl
@[simp] theorem addAcc_cmdErr (w : Half) (s : State) : (addAcc w s).cmdErr = s.cmdErr := rfl
@[simp] theorem addAcc_resultValid (w : Half) (s : State) :
    (addAcc w s).resultValid = s.resultValid := rfl
@[simp] theorem addAcc_fatalCode (w : Half) (s : State) :
    (addAcc w s).fatalCode = s.fatalCode := rfl
@[simp] theorem addAcc_srcOpen (w : Half) (s : State) : (addAcc w s).srcOpen = s.srcOpen := rfl
@[simp] theorem addAcc_cfgFrom (w : Half) (s : State) : (addAcc w s).cfgFrom = s.cfgFrom := rfl
@[simp] theorem addAcc_cfgTo (w : Half) (s : State) : (addAcc w s).cfgTo = s.cfgTo := rfl
@[simp] theorem addAcc_cfgBy (w : Half) (s : State) : (addAcc w s).cfgBy = s.cfgBy := rfl
@[simp] theorem addAcc_latFrom (w : Half) (s : State) : (addAcc w s).latFrom = s.latFrom := rfl
@[simp] theorem addAcc_latTo (w : Half) (s : State) : (addAcc w s).latTo = s.latTo := rfl
@[simp] theorem addAcc_latBy (w : Half) (s : State) : (addAcc w s).latBy = s.latBy := rfl
@[simp] theorem addAcc_csumData (w : Half) (s : State) : (addAcc w s).csumData = s.csumData := rfl
@[simp] theorem addAcc_recSel (w : Half) (s : State) : (addAcc w s).recSel = s.recSel := rfl
@[simp] theorem addAcc_src (w : Half) (s : State) : (addAcc w s).src = s.src := rfl
@[simp] theorem addAcc_turns (w : Half) (s : State) : (addAcc w s).turns = s.turns := rfl
@[simp] theorem addAcc_reads (w : Half) (s : State) : (addAcc w s).reads = s.reads := rfl

/-! `seekForward` -/

@[simp] theorem seekForward_fsm (s : State) : (seekForward s).fsm = s.fsm := rfl
@[simp] theorem seekForward_cursor (s : State) : (seekForward s).cursor = s.cursor + 1 := rfl
@[simp] theorem seekForward_acc (s : State) : (seekForward s).acc = s.acc := rfl
@[simp] theorem seekForward_hdrSync (s : State) : (seekForward s).hdrSync = s.hdrSync := rfl
@[simp] theorem seekForward_hdrSize (s : State) : (seekForward s).hdrSize = s.hdrSize := rfl
@[simp] theorem seekForward_hdrId (s : State) : (seekForward s).hdrId = s.hdrId := rfl
@[simp] theorem seekForward_hdrFamily (s : State) : (seekForward s).hdrFamily = s.hdrFamily := rfl
@[simp] theorem seekForward_hdrDsize (s : State) : (seekForward s).hdrDsize = s.hdrDsize := rfl
@[simp] theorem seekForward_hdrDcsum (s : State) : (seekForward s).hdrDcsum = s.hdrDcsum := rfl
@[simp] theorem seekForward_hdrHcsum (s : State) : (seekForward s).hdrHcsum = s.hdrHcsum := rfl
@[simp] theorem seekForward_hdrIdx (s : State) : (seekForward s).hdrIdx = s.hdrIdx := rfl
@[simp] theorem seekForward_payIdx (s : State) : (seekForward s).payIdx = s.payIdx := rfl
@[simp] theorem seekForward_payStart (s : State) : (seekForward s).payStart = s.payStart := rfl
@[simp] theorem seekForward_recCount (s : State) : (seekForward s).recCount = s.recCount := rfl
@[simp] theorem seekForward_records (s : State) : (seekForward s).records = s.records := rfl
@[simp] theorem seekForward_csumErr (s : State) : (seekForward s).csumErr = s.csumErr := rfl
@[simp] theorem seekForward_trunc (s : State) : (seekForward s).trunc = s.trunc := rfl
@[simp] theorem seekForward_cmdErr (s : State) : (seekForward s).cmdErr = s.cmdErr := rfl
@[simp] theorem seekForward_resultValid (s : State) :
    (seekForward s).resultValid = s.resultValid := rfl
@[simp] theorem seekForward_fatalCode (s : State) : (seekForward s).fatalCode = s.fatalCode := rfl
@[simp] theorem seekForward_srcOpen (s : State) : (seekForward s).srcOpen = s.srcOpen := rfl
@[simp] theorem seekForward_cfgFrom (s : State) : (seekForward s).cfgFrom = s.cfgFrom := rfl
@[simp] theorem seekForward_cfgTo (s : State) : (seekForward s).cfgTo = s.cfgTo := rfl
@[simp] theorem seekForward_cfgBy (s : State) : (seekForward s).cfgBy = s.cfgBy := rfl
@[simp] theorem seekForward_latFrom (s : State) : (seekForward s).latFrom = s.latFrom := rfl
@[simp] theorem seekForward_latTo (s : State) : (seekForward s).latTo = s.latTo := rfl
@[simp] theorem seekForward_latBy (s : State) : (seekForward s).latBy = s.latBy := rfl
@[simp] theorem seekForward_csumData (s : State) : (seekForward s).csumData = s.csumData := rfl
@[simp] theorem seekForward_recSel (s : State) : (seekForward s).recSel = s.recSel := rfl
@[simp] theorem seekForward_src (s : State) : (seekForward s).src = s.src := rfl
@[simp] theorem seekForward_turns (s : State) : (seekForward s).turns = s.turns := rfl
@[simp] theorem seekForward_reads (s : State) : (seekForward s).reads = s.reads := rfl

/-! `setTrunc` -/

@[simp] theorem setTrunc_fsm (s : State) : (setTrunc s).fsm = s.fsm := rfl
@[simp] theorem setTrunc_cursor (s : State) : (setTrunc s).cursor = s.cursor := rfl
@[simp] theorem setTrunc_acc (s : State) : (setTrunc s).acc = s.acc := rfl
@[simp] theorem setTrunc_hdrSync (s : State) : (setTrunc s).hdrSync = s.hdrSync := rfl
@[simp] theorem setTrunc_hdrSize (s : State) : (setTrunc s).hdrSize = s.hdrSize := rfl
@[simp] theorem setTrunc_hdrId (s : State) : (setTrunc s).hdrId = s.hdrId := rfl
@[simp] theorem setTrunc_hdrFamily (s : State) : (setTrunc s).hdrFamily = s.hdrFamily := rfl
@[simp] theorem setTrunc_hdrDsize (s : State) : (setTrunc s).hdrDsize = s.hdrDsize := rfl
@[simp] theorem setTrunc_hdrDcsum (s : State) : (setTrunc s).hdrDcsum = s.hdrDcsum := rfl
@[simp] theorem setTrunc_hdrHcsum (s : State) : (setTrunc s).hdrHcsum = s.hdrHcsum := rfl
@[simp] theorem setTrunc_hdrIdx (s : State) : (setTrunc s).hdrIdx = s.hdrIdx := rfl
@[simp] theorem setTrunc_payIdx (s : State) : (setTrunc s).payIdx = s.payIdx := rfl
@[simp] theorem setTrunc_payStart (s : State) : (setTrunc s).payStart = s.payStart := rfl
@[simp] theorem setTrunc_recCount (s : State) : (setTrunc s).recCount = s.recCount := rfl
@[simp] theorem setTrunc_records (s : State) : (setTrunc s).records = s.records := rfl
@[simp] theorem setTrunc_csumErr (s : State) : (setTrunc s).csumErr = s.csumErr := rfl
@[simp] theorem setTrunc_trunc (s : State) : (setTrunc s).trunc = true := rfl
@[simp] theorem setTrunc_cmdErr (s : State) : (setTrunc s).cmdErr = s.cmdErr := rfl
@[simp] theorem setTrunc_resultValid (s : State) : (setTrunc s).resultValid = s.resultValid := rfl
@[simp] theorem setTrunc_fatalCode (s : State) : (setTrunc s).fatalCode = s.fatalCode := rfl
@[simp] theorem setTrunc_srcOpen (s : State) : (setTrunc s).srcOpen = s.srcOpen := rfl
@[simp] theorem setTrunc_cfgFrom (s : State) : (setTrunc s).cfgFrom = s.cfgFrom := rfl
@[simp] theorem setTrunc_cfgTo (s : State) : (setTrunc s).cfgTo = s.cfgTo := rfl
@[simp] theorem setTrunc_cfgBy (s : State) : (setTrunc s).cfgBy = s.cfgBy := rfl
@[simp] theorem setTrunc_latFrom (s : State) : (setTrunc s).latFrom = s.latFrom := rfl
@[simp] theorem setTrunc_latTo (s : State) : (setTrunc s).latTo = s.latTo := rfl
@[simp] theorem setTrunc_latBy (s : State) : (setTrunc s).latBy = s.latBy := rfl
@[simp] theorem setTrunc_csumData (s : State) : (setTrunc s).csumData = s.csumData := rfl
@[simp] theorem setTrunc_recSel (s : State) : (setTrunc s).recSel = s.recSel := rfl
@[simp] theorem setTrunc_src (s : State) : (setTrunc s).src = s.src := rfl
@[simp] theorem setTrunc_turns (s : State) : (setTrunc s).turns = s.turns := rfl
@[simp] theorem setTrunc_reads (s : State) : (setTrunc s).reads = s.reads := rfl

/-! `setCmdErr` -/

@[simp] theorem setCmdErr_fsm (s : State) : (setCmdErr s).fsm = s.fsm := rfl
@[simp] theorem setCmdErr_cursor (s : State) : (setCmdErr s).cursor = s.cursor := rfl
@[simp] theorem setCmdErr_acc (s : State) : (setCmdErr s).acc = s.acc := rfl
@[simp] theorem setCmdErr_hdrSync (s : State) : (setCmdErr s).hdrSync = s.hdrSync := rfl
@[simp] theorem setCmdErr_hdrSize (s : State) : (setCmdErr s).hdrSize = s.hdrSize := rfl
@[simp] theorem setCmdErr_hdrId (s : State) : (setCmdErr s).hdrId = s.hdrId := rfl
@[simp] theorem setCmdErr_hdrFamily (s : State) : (setCmdErr s).hdrFamily = s.hdrFamily := rfl
@[simp] theorem setCmdErr_hdrDsize (s : State) : (setCmdErr s).hdrDsize = s.hdrDsize := rfl
@[simp] theorem setCmdErr_hdrDcsum (s : State) : (setCmdErr s).hdrDcsum = s.hdrDcsum := rfl
@[simp] theorem setCmdErr_hdrHcsum (s : State) : (setCmdErr s).hdrHcsum = s.hdrHcsum := rfl
@[simp] theorem setCmdErr_hdrIdx (s : State) : (setCmdErr s).hdrIdx = s.hdrIdx := rfl
@[simp] theorem setCmdErr_payIdx (s : State) : (setCmdErr s).payIdx = s.payIdx := rfl
@[simp] theorem setCmdErr_payStart (s : State) : (setCmdErr s).payStart = s.payStart := rfl
@[simp] theorem setCmdErr_recCount (s : State) : (setCmdErr s).recCount = s.recCount := rfl
@[simp] theorem setCmdErr_records (s : State) : (setCmdErr s).records = s.records := rfl
@[simp] theorem setCmdErr_csumErr (s : State) : (setCmdErr s).csumErr = s.csumErr := rfl
@[simp] theorem setCmdErr_trunc (s : State) : (setCmdErr s).trunc = s.trunc := rfl
@[simp] theorem setCmdErr_cmdErr (s : State) : (setCmdErr s).cmdErr = true := rfl
@[simp] theorem setCmdErr_resultValid (s : State) : (setCmdErr s).resultValid = s.resultValid := rfl
@[simp] theorem setCmdErr_fatalCode (s : State) : (setCmdErr s).fatalCode = s.fatalCode := rfl
@[simp] theorem setCmdErr_srcOpen (s : State) : (setCmdErr s).srcOpen = s.srcOpen := rfl
@[simp] theorem setCmdErr_cfgFrom (s : State) : (setCmdErr s).cfgFrom = s.cfgFrom := rfl
@[simp] theorem setCmdErr_cfgTo (s : State) : (setCmdErr s).cfgTo = s.cfgTo := rfl
@[simp] theorem setCmdErr_cfgBy (s : State) : (setCmdErr s).cfgBy = s.cfgBy := rfl
@[simp] theorem setCmdErr_latFrom (s : State) : (setCmdErr s).latFrom = s.latFrom := rfl
@[simp] theorem setCmdErr_latTo (s : State) : (setCmdErr s).latTo = s.latTo := rfl
@[simp] theorem setCmdErr_latBy (s : State) : (setCmdErr s).latBy = s.latBy := rfl
@[simp] theorem setCmdErr_csumData (s : State) : (setCmdErr s).csumData = s.csumData := rfl
@[simp] theorem setCmdErr_recSel (s : State) : (setCmdErr s).recSel = s.recSel := rfl
@[simp] theorem setCmdErr_src (s : State) : (setCmdErr s).src = s.src := rfl
@[simp] theorem setCmdErr_turns (s : State) : (setCmdErr s).turns = s.turns := rfl
@[simp] theorem setCmdErr_reads (s : State) : (setCmdErr s).reads = s.reads := rfl

/-! `compareChecksum` -/

@[simp] theorem compareChecksum_fsm (s : State) : (compareChecksum s).fsm = s.fsm := by
  unfold compareChecksum; split <;> simp [*]
@[simp] theorem compareChecksum_cursor (s : State) : (compareChecksum s).cursor = s.cursor := by
  unfold compareChecksum; split <;> simp [*]
@[simp] theorem compareChecksum_acc (s : State) : (compareChecksum s).acc = s.acc := by
  unfold compareChecksum; split <;> simp [*]
@[simp] theorem compareChecksum_hdrSync (s : State) : (compareChecksum s).hdrSync = s.hdrSync := by
  unfold compareChecksum; split <;> simp [*]
@[simp] theorem compareChecksum_hdrSize (s : State) : (compareChecksum s).hdrSize = s.hdrSize := by
  unfold compareChecksum; split <;> simp [*]
@[simp] theorem compareChecksum_hdrId (s : State) : (compareChecksum s).hdrId = s.hdrId := by
  unfold compareChecksum; split <;> simp [*]
@[simp] theorem compareChecksum_hdrFamily (s : State) :
    (compareChecksum s).hdrFamily = s.hdrFamily := by
  unfold compareChecksum; split <;> simp [*]
@[simp] theorem compareChecksum_hdrDsize (s : State) :
    (compareChecksum s).hdrDsize = s.hdrDsize := by
  unfold compareChecksum; split <;> simp [*]
@[simp] theorem compareChecksum_hdrDcsum (s : State) :
    (compareChecksum s).hdrDcsum = s.hdrDcsum := by
  unfold compareChecksum; split <;> simp [*]
@[simp] theorem compareChecksum_hdrHcsum (s : State) :
    (compareChecksum s).hdrHcsum = s.hdrHcsum := by
  unfold compareChecksum; split <;> simp [*]
@[simp] theorem compareChecksum_hdrIdx (s : State) : (compareChecksum s).hdrIdx = s.hdrIdx := by
  unfold compareChecksum; split <;> simp [*]
@[simp] theorem compareChecksum_payIdx (s : State) : (compareChecksum s).payIdx = s.payIdx := by
  unfold compareChecksum; split <;> simp [*]
@[simp] theorem compareChecksum_payStart (s : State) :
    (compareChecksum s).payStart = s.payStart := by
  unfold compareChecksum; split <;> simp [*]
@[simp] theorem compareChecksum_recCount (s : State) :
    (compareChecksum s).recCount = s.recCount := by
  unfold compareChecksum; split <;> simp [*]
@[simp] theorem compareChecksum_records (s : State) : (compareChecksum s).records = s.records := by
  unfold compareChecksum; split <;> simp [*]
@[simp] theorem compareChecksum_csumErr (s : State) :
    (compareChecksum s).csumErr = (s.csumErr || decide (s.acc ≠ s.hdrDcsum)) := by
  unfold compareChecksum; split <;> simp [*]
@[simp] theorem compareChecksum_trunc (s : State) : (compareChecksum s).trunc = s.trunc := by
  unfold compareChecksum; split <;> simp [*]
@[simp] theorem compareChecksum_cmdErr (s : State) : (compareChecksum s).cmdErr = s.cmdErr := by
  unfold compareChecksum; split <;> simp [*]
@[simp] theorem compareChecksum_resultValid (s : State) :
    (compareChecksum s).resultValid = s.resultValid := by
  unfold compareChecksum; split <;> simp [*]
@[simp] theorem compareChecksum_fatalCode (s : State) :
    (compareChecksum s).fatalCode = s.fatalCode := by
  unfold compareChecksum; split <;> simp [*]
@[simp] theorem compareChecksum_srcOpen (s : State) : (compareChecksum s).srcOpen = s.srcOpen := by
  unfold compareChecksum; split <;> simp [*]
@[simp] theorem compareChecksum_cfgFrom (s : State) : (compareChecksum s).cfgFrom = s.cfgFrom := by
  unfold compareChecksum; split <;> simp [*]
@[simp] theorem compareChecksum_cfgTo (s : State) : (compareChecksum s).cfgTo = s.cfgTo := by
  unfold compareChecksum; split <;> simp [*]
@[simp] theorem compareChecksum_cfgBy (s : State) : (compareChecksum s).cfgBy = s.cfgBy := by
  unfold compareChecksum; split <;> simp [*]
@[simp] theorem compareChecksum_latFrom (s : State) : (compareChecksum s).latFrom = s.latFrom := by
  unfold compareChecksum; split <;> simp [*]
@[simp] theorem compareChecksum_latTo (s : State) : (compareChecksum s).latTo = s.latTo := by
  unfold compareChecksum; split <;> simp [*]
@[simp] theorem compareChecksum_latBy (s : State) : (compareChecksum s).latBy = s.latBy := by
  unfold compareChecksum; split <;> simp [*]
@[simp] theorem compareChecksum_csumData (s : State) :
    (compareChecksum s).csumData = s.csumData := by
  unfold compareChecksum; split <;> simp [*]
@[simp] theorem compareChecksum_recSel (s : State) : (compareChecksum s).recSel = s.recSel := by
  unfold compareChecksum; split <;> simp [*]
@[simp] theorem compareChecksum_src (s : State) : (compareChecksum s).src = s.src := by
  unfold compareChecksum; split <;> simp [*]
@[simp] theorem compareChecksum_turns (s : State) : (compareChecksum s).turns = s.turns := by
  unfold compareChecksum; split <;> simp [*]
@[simp] theorem compareChecksum_reads (s : State) : (compareChecksum s).reads = s.reads := by
  unfold compareChecksum; split <;> simp [*]

/-! `appendSelected` -/

@[simp] theorem appendSelected_fsm (n : Nat) (s : State) : (appendSelected n s).fsm = s.fsm := by
  unfold appendSelected; split <;> simp [*]
@[simp] theorem appendSelected_cursor (n : Nat) (s : State) :
    (appendSelected n s).cursor = s.cursor := by
  unfold appendSelected; split <;> simp [*]
@[simp] theorem appendSelected_acc (n : Nat) (s : State) : (appendSelected n s).acc = s.acc := by
  unfold appendSelected; split <;> simp [*]
@[simp] theorem appendSelected_hdrSync (n : Nat) (s : State) :
    (appendSelected n s).hdrSync = s.hdrSync := by
  unfold appendSelected; split <;> simp [*]
@[simp] theorem appendSelected_hdrSize (n : Nat) (s : State) :
    (appendSelected n s).hdrSize = s.hdrSize := by
  unfold appendSelected; split <;> simp [*]
@[simp] theorem appendSelected_hdrId (n : Nat) (s : State) :
    (appendSelected n s).hdrId = s.hdrId := by
  unfold appendSelected; split <;> simp [*]
@[simp] theorem appendSelected_hdrFamily (n : Nat) (s : State) :
    (appendSelected n s).hdrFamily = s.hdrFamily := by
  unfold appendSelected; split <;> simp [*]
@[simp] theorem appendSelected_hdrDsize (n : Nat) (s : State) :
    (appendSelected n s).hdrDsize = s.hdrDsize := by
  unfold appendSelected; split <;> simp [*]
@[simp] theorem appendSelected_hdrDcsum (n : Nat) (s : State) :
    (appendSelected n s).hdrDcsum = s.hdrDcsum := by
  unfold appendSelected; split <;> simp [*]
@[simp] theorem appendSelected_hdrHcsum (n : Nat) (s : State) :
    (appendSelected n s).hdrHcsum = s.hdrHcsum := by
  unfold appendSelected; split <;> simp [*]
@[simp] theorem appendSelected_hdrIdx (n : Nat) (s : State) :
    (appendSelected n s).hdrIdx = s.hdrIdx := by
  unfold appendSelected; split <;> simp [*]
@[simp] theorem appendSelected_payIdx (n : Nat) (s : State) :
    (appendSelected n s).payIdx = s.payIdx := by
  unfold appendSelected; split <;> simp [*]
@[simp] theorem appendSelected_payStart (n : Nat) (s : State) :
    (appendSelected n s).payStart = s.payStart := by
  unfold appendSelected; split <;> simp [*]
@[simp] theorem appendSelected_recCount (n : Nat) (s : State) :
    (appendSelected n s).recCount = s.recCount := by
  unfold appendSelected; split <;> simp [*]
@[simp] theorem appendSelected_records (n : Nat) (s : State) :
    (appendSelected n s).records = if selected s.latFrom s.latBy n then s.records ++ [currentRecord s] else s.records := by
  unfold appendSelected; split <;> simp [*]
@[simp] theorem appendSelected_csumErr (n : Nat) (s : State) :
    (appendSelected n s).csumErr = s.csumErr := by
  unfold appendSelected; split <;> simp [*]
@[simp] theorem appendSelected_trunc (n : Nat) (s : State) :
    (appendSelected n s).trunc = s.trunc := by
  unfold appendSelected; split <;> simp [*]
@[simp] theorem appendSelected_cmdErr (n : Nat) (s : State) :
    (appendSelected n s).cmdErr = s.cmdErr := by
  unfold appendSelected; split <;> simp [*]
@[simp] theorem appendSelected_resultValid (n : Nat) (s : State) :
    (appendSelected n s).resultValid = s.resultValid := by
  unfold appendSelected; split <;> simp [*]
@[simp] theorem appendSelected_fatalCode (n : Nat) (s : State) :
    (appendSelected n s).fatalCode = s.fatalCode := by
  unfold appendSelected; split <;> simp [*]
@[simp] theorem appendSelected_srcOpen (n : Nat) (s : State) :
    (appendSelected n s).srcOpen = s.srcOpen := by
  unfold appendSelected; split <;> simp [*]
@[simp] theorem appendSelected_cfgFrom (n : Nat) (s : State) :
    (appendSelected n s).cfgFrom = s.cfgFrom := by
  unfold appendSelected; split <;> simp [*]
@[simp] theorem appendSelected_cfgTo (n : Nat) (s : State) :
    (appendSelected n s).cfgTo = s.cfgTo := by
  unfold appendSelected; split <;> simp [*]
@[simp] theorem appendSelected_cfgBy (n : Nat) (s : State) :
    (appendSelected n s).cfgBy = s.cfgBy := by
  unfold appendSelected; split <;> simp [*]
@[simp] theorem appendSelected_latFrom (n : Nat) (s : State) :
    (appendSelected n s).latFrom = s.latFrom := by
  unfold appendSelected; split <;> simp [*]
@[simp] theorem appendSelected_latTo (n : Nat) (s : State) :
    (appendSelected n s).latTo = s.latTo := by
  unfold appendSelected; split <;> simp [*]
@[simp] theorem appendSelected_latBy (n : Nat) (s : State) :
    (appendSelected n s).latBy = s.latBy := by
  unfold appendSelected; split <;> simp [*]
@[simp] theorem appendSelected_csumData (n : Nat) (s : State) :
    (appendSelected n s).csumData = s.csumData := by
  unfold appendSelected; split <;> simp [*]
@[simp] theorem appendSelected_recSel (n : Nat) (s : State) :
    (appendSelected n s).recSel = s.recSel := by
  unfold appendSelected; split <;> simp [*]
@[simp] theorem appendSelected_src (n : Nat) (s : State) : (appendSelected n s).src = s.src := by
  unfold appendSelected; split <;> simp [*]
@[simp] theorem appendSelected_turns (n : Nat) (s : State) :
    (appendSelected n s).turns = s.turns := by
  unfold appendSelected; split <;> simp [*]
@[simp] theorem appendSelected_reads (n : Nat) (s : State) :
    (appendSelected n s).reads = s.reads := by
  unfold appendSelected; split <;> simp [*]

/-! `recordRead` -/

@[simp] theorem recordRead_fsm (v : Word) (s : State) : (recordRead v s).fsm = s.fsm := rfl
@[simp] theorem recordRead_cursor (v : Word) (s : State) : (recordRead v s).cursor = s.cursor := rfl
@[simp] theorem recordRead_acc (v : Word) (s : State) : (recordRead v s).acc = s.acc := rfl
@[simp] theorem recordRead_hdrSync (v : Word) (s : State) :
    (recordRead v s).hdrSync = s.hdrSync := rfl
@[simp] theorem recordRead_hdrSize (v : Word) (s : State) :
    (recordRead v s).hdrSize = s.hdrSize := rfl
@[simp] theorem recordRead_hdrId (v : Word) (s : State) : (recordRead v s).hdrId = s.hdrId := rfl
@[simp] theorem recordRead_hdrFamily (v : Word) (s : State) :
    (recordRead v s).hdrFamily = s.hdrFamily := rfl
@[simp] theorem recordRead_hdrDsize (v : Word) (s : State) :
    (recordRead v s).hdrDsize = s.hdrDsize := rfl
@[simp] theorem recordRead_hdrDcsum (v : Word) (s : State) :
    (recordRead v s).hdrDcsum = s.hdrDcsum := rfl
@[simp] theorem recordRead_hdrHcsum (v : Word) (s : State) :
    (recordRead v s).hdrHcsum = s.hdrHcsum := rfl
@[simp] theorem recordRead_hdrIdx (v : Word) (s : State) : (recordRead v s).hdrIdx = s.hdrIdx := rfl
@[simp] theorem recordRead_payIdx (v : Word) (s : State) : (recordRead v s).payIdx = s.payIdx := rfl
@[simp] theorem recordRead_payStart (v : Word) (s : State) :
    (recordRead v s).payStart = s.payStart := rfl
@[simp] theorem recordRead_recCount (v : Word) (s : State) :
    (recordRead v s).recCount = s.recCount := rfl
@[simp] theorem recordRead_records (v : Word) (s : State) :
    (recordRead v s).records = s.records := rfl
@[simp] theorem recordRead_csumErr (v : Word) (s : State) :
    (recordRead v s).csumErr = s.csumErr := rfl
@[simp] theorem recordRead_trunc (v : Word) (s : State) : (recordRead v s).trunc = s.trunc := rfl
@[simp] theorem recordRead_cmdErr (v : Word) (s : State) : (recordRead v s).cmdErr = s.cmdErr := rfl
@[simp] theorem recordRead_resultValid (v : Word) (s : State) :
    (recordRead v s).resultValid = s.resultValid := rfl
@[simp] theorem recordRead_fatalCode (v : Word) (s : State) :
    (recordRead v s).fatalCode = s.fatalCode := rfl
@[simp] theorem recordRead_srcOpen (v : Word) (s : State) :
    (recordRead v s).srcOpen = s.srcOpen := rfl
@[simp] theorem recordRead_cfgFrom (v : Word) (s : State) :
    (recordRead v s).cfgFrom = s.cfgFrom := rfl
@[simp] theorem recordRead_cfgTo (v : Word) (s : State) : (recordRead v s).cfgTo = s.cfgTo := rfl
@[simp] theorem recordRead_cfgBy (v : Word) (s : State) : (recordRead v s).cfgBy = s.cfgBy := rfl
@[simp] theorem recordRead_latFrom (v : Word) (s : State) :
    (recordRead v s).latFrom = s.latFrom := rfl
@[simp] theorem recordRead_latTo (v : Word) (s : State) : (recordRead v s).latTo = s.latTo := rfl
@[simp] theorem recordRead_latBy (v : Word) (s : State) : (recordRead v s).latBy = s.latBy := rfl
@[simp] theorem recordRead_csumData (v : Word) (s : State) :
    (recordRead v s).csumData = s.csumData := rfl
@[simp] theorem recordRead_recSel (v : Word) (s : State) : (recordRead v s).recSel = s.recSel := rfl
@[simp] theorem recordRead_src (v : Word) (s : State) : (recordRead v s).src = s.src := rfl
@[simp] theorem recordRead_turns (v : Word) (s : State) : (recordRead v s).turns = s.turns := rfl
@[simp] theorem recordRead_reads (v : Word) (s : State) :
    (recordRead v s).reads = s.reads ++ [v] := rfl

/-! `dropTurn` -/

@[simp] theorem dropTurn_fsm (s : State) : (dropTurn s).fsm = s.fsm := rfl
@[simp] theorem dropTurn_cursor (s : State) : (dropTurn s).cursor = s.cursor := rfl
@[simp] theorem dropTurn_acc (s : State) : (dropTurn s).acc = s.acc := rfl
@[simp] theorem dropTurn_hdrSync (s : State) : (dropTurn s).hdrSync = s.hdrSync := rfl
@[simp] theorem dropTurn_hdrSize (s : State) : (dropTurn s).hdrSize = s.hdrSize := rfl
@[simp] theorem dropTurn_hdrId (s : State) : (dropTurn s).hdrId = s.hdrId := rfl
@[simp] theorem dropTurn_hdrFamily (s : State) : (dropTurn s).hdrFamily = s.hdrFamily := rfl
@[simp] theorem dropTurn_hdrDsize (s : State) : (dropTurn s).hdrDsize = s.hdrDsize := rfl
@[simp] theorem dropTurn_hdrDcsum (s : State) : (dropTurn s).hdrDcsum = s.hdrDcsum := rfl
@[simp] theorem dropTurn_hdrHcsum (s : State) : (dropTurn s).hdrHcsum = s.hdrHcsum := rfl
@[simp] theorem dropTurn_hdrIdx (s : State) : (dropTurn s).hdrIdx = s.hdrIdx := rfl
@[simp] theorem dropTurn_payIdx (s : State) : (dropTurn s).payIdx = s.payIdx := rfl
@[simp] theorem dropTurn_payStart (s : State) : (dropTurn s).payStart = s.payStart := rfl
@[simp] theorem dropTurn_recCount (s : State) : (dropTurn s).recCount = s.recCount := rfl
@[simp] theorem dropTurn_records (s : State) : (dropTurn s).records = s.records := rfl
@[simp] theorem dropTurn_csumErr (s : State) : (dropTurn s).csumErr = s.csumErr := rfl
@[simp] theorem dropTurn_trunc (s : State) : (dropTurn s).trunc = s.trunc := rfl
@[simp] theorem dropTurn_cmdErr (s : State) : (dropTurn s).cmdErr = s.cmdErr := rfl
@[simp] theorem dropTurn_resultValid (s : State) : (dropTurn s).resultValid = s.resultValid := rfl
@[simp] theorem dropTurn_fatalCode (s : State) : (dropTurn s).fatalCode = s.fatalCode := rfl
@[simp] theorem dropTurn_srcOpen (s : State) : (dropTurn s).srcOpen = s.srcOpen := rfl
@[simp] theorem dropTurn_cfgFrom (s : State) : (dropTurn s).cfgFrom = s.cfgFrom := rfl
@[simp] theorem dropTurn_cfgTo (s : State) : (dropTurn s).cfgTo = s.cfgTo := rfl
@[simp] theorem dropTurn_cfgBy (s : State) : (dropTurn s).cfgBy = s.cfgBy := rfl
@[simp] theorem dropTurn_latFrom (s : State) : (dropTurn s).latFrom = s.latFrom := rfl
@[simp] theorem dropTurn_latTo (s : State) : (dropTurn s).latTo = s.latTo := rfl
@[simp] theorem dropTurn_latBy (s : State) : (dropTurn s).latBy = s.latBy := rfl
@[simp] theorem dropTurn_csumData (s : State) : (dropTurn s).csumData = s.csumData := rfl
@[simp] theorem dropTurn_recSel (s : State) : (dropTurn s).recSel = s.recSel := rfl
@[simp] theorem dropTurn_src (s : State) : (dropTurn s).src = s.src := rfl
@[simp] theorem dropTurn_turns (s : State) : (dropTurn s).turns = s.turns.tail := rfl
@[simp] theorem dropTurn_reads (s : State) : (dropTurn s).reads = s.reads := rfl

/-! `resetInstance` -/

@[simp] theorem resetInstance_fsm (s : State) : (resetInstance s).fsm = State.reset.fsm := rfl
@[simp] theorem resetInstance_cursor (s : State) :
    (resetInstance s).cursor = State.reset.cursor := rfl
@[simp] theorem resetInstance_acc (s : State) : (resetInstance s).acc = State.reset.acc := rfl
@[simp] theorem resetInstance_hdrSync (s : State) :
    (resetInstance s).hdrSync = State.reset.hdrSync := rfl
@[simp] theorem resetInstance_hdrSize (s : State) :
    (resetInstance s).hdrSize = State.reset.hdrSize := rfl
@[simp] theorem resetInstance_hdrId (s : State) : (resetInstance s).hdrId = State.reset.hdrId := rfl
@[simp] theorem resetInstance_hdrFamily (s : State) :
    (resetInstance s).hdrFamily = State.reset.hdrFamily := rfl
@[simp] theorem resetInstance_hdrDsize (s : State) :
    (resetInstance s).hdrDsize = State.reset.hdrDsize := rfl
@[simp] theorem resetInstance_hdrDcsum (s : State) :
    (resetInstance s).hdrDcsum = State.reset.hdrDcsum := rfl
@[simp] theorem resetInstance_hdrHcsum (s : State) :
    (resetInstance s).hdrHcsum = State.reset.hdrHcsum := rfl
@[simp] theorem resetInstance_hdrIdx (s : State) :
    (resetInstance s).hdrIdx = State.reset.hdrIdx := rfl
@[simp] theorem resetInstance_payIdx (s : State) :
    (resetInstance s).payIdx = State.reset.payIdx := rfl
@[simp] theorem resetInstance_payStart (s : State) :
    (resetInstance s).payStart = State.reset.payStart := rfl
@[simp] theorem resetInstance_recCount (s : State) :
    (resetInstance s).recCount = State.reset.recCount := rfl
@[simp] theorem resetInstance_records (s : State) :
    (resetInstance s).records = State.reset.records := rfl
@[simp] theorem resetInstance_csumErr (s : State) :
    (resetInstance s).csumErr = State.reset.csumErr := rfl
@[simp] theorem resetInstance_trunc (s : State) : (resetInstance s).trunc = State.reset.trunc := rfl
@[simp] theorem resetInstance_cmdErr (s : State) :
    (resetInstance s).cmdErr = State.reset.cmdErr := rfl
@[simp] theorem resetInstance_resultValid (s : State) :
    (resetInstance s).resultValid = State.reset.resultValid := rfl
@[simp] theorem resetInstance_fatalCode (s : State) :
    (resetInstance s).fatalCode = State.reset.fatalCode := rfl
@[simp] theorem resetInstance_srcOpen (s : State) :
    (resetInstance s).srcOpen = State.reset.srcOpen := rfl
@[simp] theorem resetInstance_cfgFrom (s : State) :
    (resetInstance s).cfgFrom = State.reset.cfgFrom := rfl
@[simp] theorem resetInstance_cfgTo (s : State) : (resetInstance s).cfgTo = State.reset.cfgTo := rfl
@[simp] theorem resetInstance_cfgBy (s : State) : (resetInstance s).cfgBy = State.reset.cfgBy := rfl
@[simp] theorem resetInstance_latFrom (s : State) :
    (resetInstance s).latFrom = State.reset.latFrom := rfl
@[simp] theorem resetInstance_latTo (s : State) : (resetInstance s).latTo = State.reset.latTo := rfl
@[simp] theorem resetInstance_latBy (s : State) : (resetInstance s).latBy = State.reset.latBy := rfl
@[simp] theorem resetInstance_csumData (s : State) :
    (resetInstance s).csumData = State.reset.csumData := rfl
@[simp] theorem resetInstance_recSel (s : State) :
    (resetInstance s).recSel = State.reset.recSel := rfl
@[simp] theorem resetInstance_src (s : State) : (resetInstance s).src = s.src := rfl
@[simp] theorem resetInstance_turns (s : State) : (resetInstance s).turns = s.turns := rfl
@[simp] theorem resetInstance_reads (s : State) : (resetInstance s).reads = s.reads := rfl

/-! `writeLane` -/

@[simp] theorem writeLane_fsm (l : HeaderLane) (b : Byte) (s : State) :
    (writeLane l b s).fsm = s.fsm := by
  cases l <;> rfl
@[simp] theorem writeLane_cursor (l : HeaderLane) (b : Byte) (s : State) :
    (writeLane l b s).cursor = s.cursor := by
  cases l <;> rfl
@[simp] theorem writeLane_acc (l : HeaderLane) (b : Byte) (s : State) :
    (writeLane l b s).acc = s.acc := by
  cases l <;> rfl
@[simp] theorem writeLane_hdrSync (l : HeaderLane) (b : Byte) (s : State) :
    (writeLane l b s).hdrSync = s.hdrSync := by
  cases l <;> rfl
@[simp] theorem writeLane_hdrSize (l : HeaderLane) (b : Byte) (s : State) :
    (writeLane l b s).hdrSize = s.hdrSize := by
  cases l <;> rfl
@[simp] theorem writeLane_hdrIdx (l : HeaderLane) (b : Byte) (s : State) :
    (writeLane l b s).hdrIdx = s.hdrIdx := by
  cases l <;> rfl
@[simp] theorem writeLane_payIdx (l : HeaderLane) (b : Byte) (s : State) :
    (writeLane l b s).payIdx = s.payIdx := by
  cases l <;> rfl
@[simp] theorem writeLane_payStart (l : HeaderLane) (b : Byte) (s : State) :
    (writeLane l b s).payStart = s.payStart := by
  cases l <;> rfl
@[simp] theorem writeLane_recCount (l : HeaderLane) (b : Byte) (s : State) :
    (writeLane l b s).recCount = s.recCount := by
  cases l <;> rfl
@[simp] theorem writeLane_records (l : HeaderLane) (b : Byte) (s : State) :
    (writeLane l b s).records = s.records := by
  cases l <;> rfl
@[simp] theorem writeLane_csumErr (l : HeaderLane) (b : Byte) (s : State) :
    (writeLane l b s).csumErr = s.csumErr := by
  cases l <;> rfl
@[simp] theorem writeLane_trunc (l : HeaderLane) (b : Byte) (s : State) :
    (writeLane l b s).trunc = s.trunc := by
  cases l <;> rfl
@[simp] theorem writeLane_cmdErr (l : HeaderLane) (b : Byte) (s : State) :
    (writeLane l b s).cmdErr = s.cmdErr := by
  cases l <;> rfl
@[simp] theorem writeLane_resultValid (l : HeaderLane) (b : Byte) (s : State) :
    (writeLane l b s).resultValid = s.resultValid := by
  cases l <;> rfl
@[simp] theorem writeLane_fatalCode (l : HeaderLane) (b : Byte) (s : State) :
    (writeLane l b s).fatalCode = s.fatalCode := by
  cases l <;> rfl
@[simp] theorem writeLane_srcOpen (l : HeaderLane) (b : Byte) (s : State) :
    (writeLane l b s).srcOpen = s.srcOpen := by
  cases l <;> rfl
@[simp] theorem writeLane_cfgFrom (l : HeaderLane) (b : Byte) (s : State) :
    (writeLane l b s).cfgFrom = s.cfgFrom := by
  cases l <;> rfl
@[simp] theorem writeLane_cfgTo (l : HeaderLane) (b : Byte) (s : State) :
    (writeLane l b s).cfgTo = s.cfgTo := by
  cases l <;> rfl
@[simp] theorem writeLane_cfgBy (l : HeaderLane) (b : Byte) (s : State) :
    (writeLane l b s).cfgBy = s.cfgBy := by
  cases l <;> rfl
@[simp] theorem writeLane_latFrom (l : HeaderLane) (b : Byte) (s : State) :
    (writeLane l b s).latFrom = s.latFrom := by
  cases l <;> rfl
@[simp] theorem writeLane_latTo (l : HeaderLane) (b : Byte) (s : State) :
    (writeLane l b s).latTo = s.latTo := by
  cases l <;> rfl
@[simp] theorem writeLane_latBy (l : HeaderLane) (b : Byte) (s : State) :
    (writeLane l b s).latBy = s.latBy := by
  cases l <;> rfl
@[simp] theorem writeLane_csumData (l : HeaderLane) (b : Byte) (s : State) :
    (writeLane l b s).csumData = s.csumData := by
  cases l <;> rfl
@[simp] theorem writeLane_recSel (l : HeaderLane) (b : Byte) (s : State) :
    (writeLane l b s).recSel = s.recSel := by
  cases l <;> rfl
@[simp] theorem writeLane_src (l : HeaderLane) (b : Byte) (s : State) :
    (writeLane l b s).src = s.src := by
  cases l <;> rfl
@[simp] theorem writeLane_turns (l : HeaderLane) (b : Byte) (s : State) :
    (writeLane l b s).turns = s.turns := by
  cases l <;> rfl
@[simp] theorem writeLane_reads (l : HeaderLane) (b : Byte) (s : State) :
    (writeLane l b s).reads = s.reads := by
  cases l <;> rfl

/-! `storeReg` -/

@[simp] theorem storeReg_fsm (r : Reg) (v : Word) (s : State) : (storeReg r v s).fsm = s.fsm := by
  cases r <;> rfl
@[simp] theorem storeReg_cursor (r : Reg) (v : Word) (s : State) :
    (storeReg r v s).cursor = s.cursor := by
  cases r <;> rfl
@[simp] theorem storeReg_acc (r : Reg) (v : Word) (s : State) : (storeReg r v s).acc = s.acc := by
  cases r <;> rfl
@[simp] theorem storeReg_hdrSync (r : Reg) (v : Word) (s : State) :
    (storeReg r v s).hdrSync = s.hdrSync := by
  cases r <;> rfl
@[simp] theorem storeReg_hdrSize (r : Reg) (v : Word) (s : State) :
    (storeReg r v s).hdrSize = s.hdrSize := by
  cases r <;> rfl
@[simp] theorem storeReg_hdrId (r : Reg) (v : Word) (s : State) :
    (storeReg r v s).hdrId = s.hdrId := by
  cases r <;> rfl
@[simp] theorem storeReg_hdrFamily (r : Reg) (v : Word) (s : State) :
    (storeReg r v s).hdrFamily = s.hdrFamily := by
  cases r <;> rfl
@[simp] theorem storeReg_hdrDsize (r : Reg) (v : Word) (s : State) :
    (storeReg r v s).hdrDsize = s.hdrDsize := by
  cases r <;> rfl
@[simp] theorem storeReg_hdrDcsum (r : Reg) (v : Word) (s : State) :
    (storeReg r v s).hdrDcsum = s.hdrDcsum := by
  cases r <;> rfl
@[simp] theorem storeReg_hdrHcsum (r : Reg) (v : Word) (s : State) :
    (storeReg r v s).hdrHcsum = s.hdrHcsum := by
  cases r <;> rfl
@[simp] theorem storeReg_hdrIdx (r : Reg) (v : Word) (s : State) :
    (storeReg r v s).hdrIdx = s.hdrIdx := by
  cases r <;> rfl
@[simp] theorem storeReg_payIdx (r : Reg) (v : Word) (s : State) :
    (storeReg r v s).payIdx = s.payIdx := by
  cases r <;> rfl
@[simp] theorem storeReg_payStart (r : Reg) (v : Word) (s : State) :
    (storeReg r v s).payStart = s.payStart := by
  cases r <;> rfl
@[simp] theorem storeReg_recCount (r : Reg) (v : Word) (s : State) :
    (storeReg r v s).recCount = s.recCount := by
  cases r <;> rfl
@[simp] theorem storeReg_records (r : Reg) (v : Word) (s : State) :
    (storeReg r v s).records = s.records := by
  cases r <;> rfl
@[simp] theorem storeReg_csumErr (r : Reg) (v : Word) (s : State) :
    (storeReg r v s).csumErr = s.csumErr := by
  cases r <;> rfl
@[simp] theorem storeReg_trunc (r : Reg) (v : Word) (s : State) :
    (storeReg r v s).trunc = s.trunc := by
  cases r <;> rfl
@[simp] theorem storeReg_cmdErr (r : Reg) (v : Word) (s : State) :
    (storeReg r v s).cmdErr = s.cmdErr := by
  cases r <;> rfl
@[simp] theorem storeReg_resultValid (r : Reg) (v : Word) (s : State) :
    (storeReg r v s).resultValid = s.resultValid := by
  cases r <;> rfl
@[simp] theorem storeReg_fatalCode (r : Reg) (v : Word) (s : State) :
    (storeReg r v s).fatalCode = s.fatalCode := by
  cases r <;> rfl
@[simp] theorem storeReg_srcOpen (r : Reg) (v : Word) (s : State) :
    (storeReg r v s).srcOpen = s.srcOpen := by
  cases r <;> rfl
@[simp] theorem storeReg_latFrom (r : Reg) (v : Word) (s : State) :
    (storeReg r v s).latFrom = s.latFrom := by
  cases r <;> rfl
@[simp] theorem storeReg_latTo (r : Reg) (v : Word) (s : State) :
    (storeReg r v s).latTo = s.latTo := by
  cases r <;> rfl
@[simp] theorem storeReg_latBy (r : Reg) (v : Word) (s : State) :
    (storeReg r v s).latBy = s.latBy := by
  cases r <;> rfl
@[simp] theorem storeReg_src (r : Reg) (v : Word) (s : State) : (storeReg r v s).src = s.src := by
  cases r <;> rfl
@[simp] theorem storeReg_turns (r : Reg) (v : Word) (s : State) :
    (storeReg r v s).turns = s.turns := by
  cases r <;> rfl
@[simp] theorem storeReg_reads (r : Reg) (v : Word) (s : State) :
    (storeReg r v s).reads = s.reads := by
  cases r <;> rfl

end Sys2Proof.Machine
end

