-- ==== Sys2Proof/Laws/Ops.lean ====
section
/-! SUPPORT. For each shared operation, what it can do, said once. -/

namespace Sys2Proof.Machine

/-! ### The byte source -/

/-- `SrcRead` answers exactly where `EOS` does not hold (R62). -/
theorem srcRead_none_iff_eos (bs : List Byte) (a : Nat) : srcRead bs a = none ↔ eos bs a = true := by
  simp [srcRead, eos]

/-- A byte string is its own canonical form: two that read alike at every position are equal. -/
theorem source_eq_of_reads_eq {xs ys : List Byte} (h : ∀ a, srcRead xs a = srcRead ys a) : xs = ys :=
  List.ext_getElem? h

/-- At the end of the stream the end-of-stream branch is taken (R62). -/
theorem readAtCursor_at_end {s : State} {bs : List Byte} {e : Result} {f : Byte → Result}
    (hs : s.src = some bs) (h : bs.length ≤ s.cursor) : readAtCursor s e f = e := by
  simp [readAtCursor, hs, srcRead, List.getElem?_eq_none h]

/-- Before the end of the stream the byte at CURSOR is read (R62). -/
theorem readAtCursor_at_byte {s : State} {bs : List Byte} {b : Byte} {e : Result} {f : Byte → Result}
    (hs : s.src = some bs) (h : bs[s.cursor]? = some b) : readAtCursor s e f = f b := by
  simp [readAtCursor, hs, srcRead, h]

/-- What a read at CURSOR that answers a next state did. -/
theorem readAtCursor_next {s t : State} {e : Result} {f : Byte → Result}
    (h : readAtCursor s e f = .next t) :
    ∃ bs, s.src = some bs ∧
      ((bs.length ≤ s.cursor ∧ e = .next t) ∨
        ∃ b, bs[s.cursor]? = some b ∧ s.cursor < bs.length ∧ f b = .next t) := by
  unfold readAtCursor at h
  split at h
  · cases h
  · rename_i bs hs
    refine ⟨bs, hs, ?_⟩
    split at h
    · rename_i hr
      exact .inl ⟨by simpa [srcRead] using hr, h⟩
    · rename_i b hr
      have hr' : bs[s.cursor]? = some b := hr
      exact .inr ⟨b, hr', (List.getElem?_eq_some_iff.mp hr').1, h⟩

/-! ### Header bytes -/

/-- A lane of R123's table is there exactly for bytes 2 to S-1 of the two sizes. -/
theorem headerLane_isSome_iff (size : Byte) (k : Nat) :
    (headerLane size k).isSome = true ↔
      size = Config.size10 ∧ 2 ≤ k ∧ k < 10 ∨ size = Config.size12 ∧ 2 ≤ k ∧ k < 12 := by
  unfold headerLane
  split
  · subst_vars
    have : Config.size10 ≠ Config.size12 := by decide
    unfold laneH10
    by_cases h2 : k = 2 <;> by_cases h3 : k = 3 <;> by_cases h4 : k = 4 <;> by_cases h5 : k = 5 <;>
      by_cases h6 : k = 6 <;> by_cases h7 : k = 7 <;> by_cases h8 : k = 8 <;>
      by_cases h9 : k = 9 <;> (simp [*]; try omega)
  · split
    · unfold laneH12
      by_cases h2 : k = 2 <;> by_cases h3 : k = 3 <;> by_cases h4 : k = 4 <;>
        by_cases h5 : k = 5 <;> by_cases h6 : k = 6 <;> by_cases h7 : k = 7 <;>
        by_cases h8 : k = 8 <;> by_cases h9 : k = 9 <;> by_cases h10 : k = 10 <;>
        by_cases h11 : k = 11 <;> (simp_all; try omega)
    · simp_all

/-- What HDR_FIELD does where it answers a next state: one lane is written, and the header is complete
exactly when this was its last byte (R123, R124). -/
theorem headerField_next {k : Nat} {b : Byte} {s t : State} (h : headerField k b s = .next t) :
    ∃ l, headerLane s.hdrSize k = some l ∧
      (k + 1 = s.hdrSize.toNat ∧ t = completeHeader (writeLane l b s) ∨
        k + 1 ≠ s.hdrSize.toNat ∧ t = writeLane l b s) := by
  unfold headerField at h
  split at h
  · cases h
  · rename_i l hl
    refine ⟨l, hl, ?_⟩
    simp only [writeLane_hdrSize] at h
    split at h <;> simp_all

/-- Bit `i` of a value after one of its bytes is written (R123). -/
theorem getLsbD_setByte {w : Nat} (v : BitVec w) (j : Nat) (b : Byte) (i : Nat) (hi : i < w) :
    (setByte v j b).getLsbD i =
      if 8 * j ≤ i ∧ i < 8 * j + 8 then b.getLsbD (i - 8 * j) else v.getLsbD i := by
  unfold setByte
  simp only [BitVec.getLsbD_or, BitVec.getLsbD_and, BitVec.getLsbD_not, BitVec.getLsbD_shiftLeft,
    BitVec.getLsbD_setWidth, BitVec.getLsbD_ofNat, hi, decide_true, Bool.true_and]
  have h255 : Nat.testBit 255 (i - 8 * j) = decide (i - 8 * j < 8) := by
    rw [show (255 : Nat) = 2 ^ 8 - 1 from rfl, Nat.testBit_two_pow_sub_one]
  by_cases h1 : i < 8 * j
  · simp [h1, show ¬ 8 * j ≤ i by omega]
  · by_cases h2 : i < 8 * j + 8
    · have : i - 8 * j < 8 := by omega
      simp [h1, h2, h255, this, show i - 8 * j < w by omega, show 8 * j ≤ i by omega]
    · have h3 : ¬ i - 8 * j < 8 := by omega
      have h4 : b.getLsbD (i - 8 * j) = false := BitVec.getLsbD_of_ge _ _ (by omega)
      simp [h1, h2, h255, h3, h4]

/-- A value whose bits are those of a written byte and of the old value is the written value. -/
theorem setByte_eq_of_bits {w : Nat} {v r : BitVec w} {j : Nat} {b : Byte}
    (h : ∀ i, i < w →
      r.getLsbD i = if 8 * j ≤ i ∧ i < 8 * j + 8 then b.getLsbD (i - 8 * j) else v.getLsbD i) :
    setByte v j b = r := by
  apply BitVec.eq_of_getLsbD_eq
  intro i hi
  rw [getLsbD_setByte _ _ _ _ hi, h i hi]

/-- A data-size byte written over the others, as a concatenation: lane 0. -/
theorem setByte_word_0 (v : Word) (b : Byte) : setByte v 0 b = v.extractLsb' 8 24 ++ b := by
  apply setByte_eq_of_bits
  intro i hi
  rw [BitVec.getLsbD_append, BitVec.getLsbD_extractLsb']
  by_cases h : i < 8
  · simp [h]
  · simp [h, show i - 8 < 24 by omega, show 8 + (i - 8) = i by omega]

/-- Lane 1. -/
theorem setByte_word_1 (v : Word) (b : Byte) :
    setByte v 1 b = v.extractLsb' 16 16 ++ b ++ v.extractLsb' 0 8 := by
  apply setByte_eq_of_bits
  intro i hi
  rw [BitVec.getLsbD_append, BitVec.getLsbD_append, BitVec.getLsbD_extractLsb',
    BitVec.getLsbD_extractLsb']
  by_cases h : i < 8
  · simp [h, show ¬ 8 ≤ i by omega]
  · by_cases h2 : i < 16
    · simp [h, h2, show i - 8 < 8 by omega, show 8 ≤ i by omega]
    · simp [h, h2, show ¬ i - 8 < 8 by omega, show i - 8 - 8 < 16 by omega,
        show 16 + (i - 8 - 8) = i by omega]

/-- Lane 2. -/
theorem setByte_word_2 (v : Word) (b : Byte) :
    setByte v 2 b = v.extractLsb' 24 8 ++ b ++ v.extractLsb' 0 16 := by
  apply setByte_eq_of_bits
  intro i hi
  rw [BitVec.getLsbD_append, BitVec.getLsbD_append, BitVec.getLsbD_extractLsb',
    BitVec.getLsbD_extractLsb']
  by_cases h : i < 16
  · simp [h, show ¬ 16 ≤ i by omega]
  · by_cases h2 : i < 24
    · simp [h, h2, show i - 16 < 8 by omega, show 16 ≤ i by omega]
    · simp [h, h2, show ¬ i - 16 < 8 by omega, show i - 16 - 8 < 8 by omega,
        show 24 + (i - 16 - 8) = i by omega]

/-- Lane 3. -/
theorem setByte_word_3 (v : Word) (b : Byte) : setByte v 3 b = b ++ v.extractLsb' 0 24 := by
  apply setByte_eq_of_bits
  intro i hi
  rw [BitVec.getLsbD_append, BitVec.getLsbD_extractLsb']
  by_cases h : i < 24
  · simp [h, show ¬ 24 ≤ i by omega]
  · simp [h, hi, show 24 ≤ i by omega]

/-- A checksum byte written over the other: lane 0. -/
theorem setByte_half_0 (v : Half) (b : Byte) : setByte v 0 b = v.extractLsb' 8 8 ++ b := by
  apply setByte_eq_of_bits
  intro i hi
  rw [BitVec.getLsbD_append, BitVec.getLsbD_extractLsb']
  by_cases h : i < 8
  · simp [h]
  · simp [h, show i - 8 < 8 by omega, show 8 + (i - 8) = i by omega]

/-- Lane 1. -/
theorem setByte_half_1 (v : Half) (b : Byte) : setByte v 1 b = b ++ v.extractLsb' 0 8 := by
  apply setByte_eq_of_bits
  intro i hi
  rw [BitVec.getLsbD_append, BitVec.getLsbD_extractLsb']
  by_cases h : i < 8
  · simp [h, show ¬ 8 ≤ i by omega]
  · simp [h, hi, show 8 ≤ i by omega]

/-! ### The checksum -/

/-- What a payload byte adds, by the parity of its number (R142). -/
theorem laneWord_eq (i : Word) (b : Byte) :
    laneWord i b = if i.toNat % 2 = 0 then b.setWidth 16 else b ++ (0x00 : Byte) := by
  have h : i.getLsbD 0 = decide (i.toNat % 2 = 1) := by
    rw [BitVec.getLsbD, Nat.testBit_zero]
  rw [laneWord, h]
  rcases Nat.mod_two_eq_zero_or_one i.toNat with e | e <;> simp [e]

/-- The checksum of no payload is the seed (R140, R142). -/
@[simp] theorem checksum_nil : checksum [] = Config.seed := rfl

/-! ### Commands and stops -/

/-- A command that changes anything but CMD_ERR ran with BUSY = 0 (R181). -/
theorem unlessBusy_next {s t : State} {f : State → Result} (h : unlessBusy s f = .next t) :
    busy s = true ∧ t = setCmdErr s ∨ busy s = false ∧ f s = .next t := by
  unfold unlessBusy at h
  cases hb : busy s <;> simp_all

/-- With BUSY = 0 a command runs (R181). -/
theorem unlessBusy_of_not_busy {s : State} {f : State → Result} (h : busy s = false) :
    unlessBusy s f = f s := by
  simp [unlessBusy, h]

/-- BUSY by the name of the scan state (R22). -/
theorem busy_iff (s : State) : busy s = true ↔ s.fsm ≠ .idle ∧ s.fsm ≠ .stopped := by
  unfold busy; cases s.fsm <;> decide

/-- No stop leaves the engine busy (R202). -/
@[simp] theorem busy_stopFatal (e : FatalError) (s : State) : busy (stopFatal e s) = false := rfl

/-- No stop leaves the engine busy (R203). -/
@[simp] theorem busy_stopDone (s : State) : busy (stopDone s) = false := rfl

/-- What START with BUSY = 0 does where it answers a next state (R183). -/
theorem startScan_next {s t : State} (h : startScan s = .next t) :
    (∃ e, (e = .invalidParameter ∨ e = .sourceUnavailable) ∧ t = stopFatal e (clearScan s)) ∨
    ∃ bs, s.src = some bs ∧ bs.length < Config.posBound ∧ 0 < s.cfgFrom.toInt ∧
      0 ≤ s.cfgTo.toInt ∧ 0 < s.cfgBy.toInt ∧
      t = { clearScan s with
        latFrom := s.cfgFrom.toInt.toNat
        latTo := s.cfgTo.toInt.toNat
        latBy := s.cfgBy.toInt.toNat
        srcOpen := true
        fsm := .seeking } := by
  simp only [startScan] at h
  split at h
  · cases h; exact .inl ⟨_, .inl rfl, rfl⟩
  · rename_i hneg
    split at h
    · cases h; exact .inl ⟨_, .inl rfl, rfl⟩
    · rename_i hzero
      split at h
      · cases h; exact .inl ⟨_, .inr rfl, rfl⟩
      · rename_i bs hs
        split at h
        · cases h
        · rename_i hlen
          cases h
          exact .inr ⟨bs, hs, by omega, by omega, by omega, by omega, rfl⟩

/-! ### Host accesses -/

/-- An access reaches an offset of the block exactly when it is a whole word at a multiple of 4 (R37,
R67). -/
theorem accessOffset_offset_ok (o n o' : Nat) :
    accessOffset (.offset o) n = .ok o' ↔ o < 0x100 ∧ n = 4 ∧ o % 4 = 0 ∧ o' = o := by
  unfold accessOffset blockOffset Config.blockBytes
  by_cases ho : o < 0x100 <;> by_cases hn : n = 4 <;> by_cases hm : o % 4 = 0 <;>
    simp [ho, hn, hm, eq_comm]

/-- Each register of the map is found at its own offset (R35). -/
theorem regAt_regOffset (r : Reg) : regAt (regOffset r) = some r := by
  cases r <;> rfl

/-- What the decoder answers for a command word (R90, R91). -/
theorem decodeCommand_ok {w : Word} {i : Instr} (h : decodeCommand w = .ok i) :
    w = 0 ∧ i = .nop ∨ w = 1 ∧ i = .start ∨ w = 2 ∧ i = .clear ∨ w = 3 ∧ i = .csumSeed ∨
      w = 4 ∧ i = .csumWord := by
  unfold decodeCommand at h
  repeat' split at h
  all_goals simp_all

/-- The only refusal of START, and when: legal bounds and a source that is too long (R63, R183). -/
theorem startScan_refused {s : State} {r : Refusal} (h : startScan s = .refused r) :
    r = .streamTooLong ∧ Config.posBound ≤ sourceLength s ∧ 0 < s.cfgFrom.toInt ∧
      0 ≤ s.cfgTo.toInt ∧ 0 < s.cfgBy.toInt := by
  simp only [startScan] at h
  split at h
  · cases h
  split at h
  · cases h
  split at h
  · cases h
  · rename_i bs hs
    split at h
    · rename_i hlen
      cases h
      exact ⟨rfl, by simpa [sourceLength, hs] using hlen, by omega, by omega, by omega⟩
    · cases h

/-- Why a host access is refused: it lies outside the block, or it is not a whole word (R65, R67). -/
theorem accessOffset_error {p : Place} {n : Nat} {r : Refusal} (h : accessOffset p n = .error r) :
    r = .outsideBlock ∧ blockOffset p = none ∨
      r = .notWholeWord ∧ ∃ o, blockOffset p = some o ∧ (n ≠ 4 ∨ o % 4 ≠ 0) := by
  unfold accessOffset at h
  split at h
  · cases h
    exact .inl ⟨rfl, by assumption⟩
  · split at h <;> cases h
    exact .inr ⟨rfl, _, by assumption, by omega⟩

/-- CMD is found at offset 0 alone (R35). -/
theorem regAt_cmd {o : Nat} (h : regAt o = some .cmd) : o = 0 := by
  have := List.find?_some h
  simpa [regOffset] using Eq.symm (beq_iff_eq.mp this)

/-! ### The engine -/

/-- The micro-operation of each scan state (R22, R92). -/
theorem engineTurn_eq (s : State) :
    engineTurn s =
      match s.fsm with
      | .idle => .next s
      | .seeking => execSeekStep s
      | .decHdr => execHdrStep s
      | .readPay => execPayStep s
      | .validating => execValidate s
      | .emitting => execEmit s
      | .stopped => .next s := by
  unfold engineTurn microOperation
  cases s.fsm <;> rfl

theorem engineTurn_of_seeking {s : State} (h : s.fsm = .seeking) : engineTurn s = execSeekStep s := by
  simp only [engineTurn_eq, h]

theorem engineTurn_of_decHdr {s : State} (h : s.fsm = .decHdr) : engineTurn s = execHdrStep s := by
  simp only [engineTurn_eq, h]

theorem engineTurn_of_readPay {s : State} (h : s.fsm = .readPay) : engineTurn s = execPayStep s := by
  simp only [engineTurn_eq, h]

theorem engineTurn_of_validating {s : State} (h : s.fsm = .validating) : engineTurn s = execValidate s := by
  simp only [engineTurn_eq, h]

theorem engineTurn_of_emitting {s : State} (h : s.fsm = .emitting) : engineTurn s = execEmit s := by
  simp only [engineTurn_eq, h]

@[simp] theorem engineRun_zero (s : State) : engineRun 0 s = .next s := rfl

/-- One more Engine step in front of a run that answers. -/
theorem engineRun_succ {n : Nat} {s s' : State} (h : engineTurn s = .next s') :
    engineRun (n + 1) s = engineRun n s' := by
  simp [engineRun, h]

/-- Engine runs compose. -/
theorem engineRun_add {m : Nat} (n : Nat) {s s' : State} (h : engineRun m s = .next s') :
    engineRun (m + n) s = engineRun n s' := by
  induction m generalizing s with
  | zero => cases h; simp
  | succ m ih =>
    rw [Nat.add_right_comm]
    simp only [engineRun] at h ⊢
    cases he : engineTurn s with
    | next u => rw [he] at h; exact ih h
    | fault f => rw [he] at h; cases h
    | refused r => rw [he] at h; cases h

/-- A stopped or idle engine stays as it is, however many turns it is given (R187, R215). -/
theorem engineRun_of_not_busy {s : State} (h : busy s = false) (n : Nat) :
    engineRun n s = .next s := by
  induction n with
  | zero => rfl
  | succ n ih =>
    have ht : engineTurn s = .next s := by
      rw [engineTurn_eq]
      cases hf : s.fsm <;> simp_all [busy, fsmCode]
    rw [engineRun_succ ht, ih]

end Sys2Proof.Machine
end

