-- ==== Sys2Proof/Laws/PerInstr.lean ====
section
/-! SUPPORT. Statements made per instruction: the encoder gives each well-formed instruction the bits
that its row of spec/opcode_table.json fixes. -/

namespace Sys2Proof.Laws.MatchesTableRow

/-- The width of the row's mask and the row's match value (spec/opcode_table.json). -/
def tableRow : Instr → Nat × Nat
  | .hdr10 _ => (16, 0x0AA5)
  | .hdr12 _ => (16, 0x0CA5)
  | .nop => (32, 0x00000000)
  | .start => (32, 0x00000001)
  | .clear => (32, 0x00000002)
  | .csumSeed => (32, 0x00000003)
  | .csumWord => (32, 0x00000004)
  | .seekStep => (3, 0x1)
  | .hdrStep => (3, 0x2)
  | .payStep => (3, 0x3)
  | .validate => (3, 0x4)
  | .emit => (3, 0x5)

/-- The bits of an encoding that the table matches: of a header W = b0 + 256 * b1 (R88), of a command
or FSM code all of it. -/
def matchedBits : Encoding → Option (Nat × Nat)
  | .frame (b0 :: b1 :: _) => some (16, b0.toNat + 256 * b1.toNat)
  | .frame _ => none
  | .command w => some (32, w.toNat)
  | .fsm c => some (3, c.toNat)

/-- The encoding has the bits its row fixes. -/
def Statement (i : Instr) : Prop := i.wf = true → matchedBits (encode i) = some (tableRow i)

theorem hdr10 (h : Header) : Statement (.hdr10 h) := by
  intro hw
  simp only [Instr.wf, Header.wf10, Bool.and_eq_true, beq_iff_eq] at hw
  simp [encode, encodeH10, matchedBits, tableRow, hw.1.1, hw.1.2, Config.sync, Config.size10]

theorem hdr12 (h : Header) : Statement (.hdr12 h) := by
  intro hw
  simp only [Instr.wf, Header.wf12, Bool.and_eq_true, beq_iff_eq] at hw
  simp [encode, encodeH12, matchedBits, tableRow, hw.1, hw.2, Config.sync, Config.size12]

theorem nop : Statement .nop := fun _ => rfl

theorem start : Statement .start := fun _ => rfl

theorem clear : Statement .clear := fun _ => rfl

theorem csumSeed : Statement .csumSeed := fun _ => rfl

theorem csumWord : Statement .csumWord := fun _ => rfl

theorem seekStep : Statement .seekStep := fun _ => rfl

theorem hdrStep : Statement .hdrStep := fun _ => rfl

theorem payStep : Statement .payStep := fun _ => rfl

theorem validate : Statement .validate := fun _ => rfl

theorem emit : Statement .emit := fun _ => rfl

end Sys2Proof.Laws.MatchesTableRow
end

