-- ==== Sys2Proof/Laws/Steps.lean ====
section
/-! SUPPORT. What each micro-operation and each turn can do, said once: from the next state that a
meaning answers to the cases of its rule. -/

namespace Sys2Proof.Machine

/-! ### Micro-operations -/

/-- Everything SEEK_STEP can do (R110). -/
theorem execSeekStep_next {s t : State} (h : execSeekStep s = .next t) :
    ∃ bs, s.src = some bs ∧
      (bs.length ≤ s.cursor ∧ t = stopFatal .noSyncFound s ∨
        ∃ b, bs[s.cursor]? = some b ∧ s.cursor < bs.length ∧
          (b = Config.sync ∧ t = { s with hdrIdx := 0, fsm := .decHdr } ∨
            b ≠ Config.sync ∧ t = seekForward s)) := by
  obtain ⟨bs, hs, ⟨h1, h2⟩ | ⟨b, hb, hlt, h⟩⟩ := readAtCursor_next h
  · cases h2
    exact ⟨bs, hs, .inl ⟨h1, rfl⟩⟩
  · refine ⟨bs, hs, .inr ⟨b, hb, hlt, ?_⟩⟩
    split at h <;> cases h <;> simp_all

/-- Header byte 0, by its check (R121). -/
theorem headerByte0_cases (b : Byte) (s : State) :
    b ≠ Config.sync ∧ headerByte0 b s = stopFatal .lostSync (latchHeader ⟨b, 0, 0, 0, 0, 0, 0⟩ s) ∨
      b = Config.sync ∧ headerByte0 b s = latchHeader ⟨b, 0, 0, 0, 0, 0, 0⟩ s := by
  unfold headerByte0
  by_cases h : b = Config.sync <;> simp [h]

/-- Header byte 1, by its check (R122). -/
theorem headerByte1_cases (b : Byte) (s : State) :
    (b ≠ Config.size10 ∧ b ≠ Config.size12) ∧
        headerByte1 b s = stopFatal .invalidHeaderSize { s with hdrSize := b } ∨
      (b = Config.size10 ∨ b = Config.size12) ∧ headerByte1 b s = { s with hdrSize := b } := by
  unfold headerByte1
  by_cases h : b = Config.size10 <;> by_cases h' : b = Config.size12 <;> simp [h, h']

/-- Everything HDR_STEP can do (R120 to R124). `u` is the state with CURSOR and HDR_IDX advanced. -/
theorem execHdrStep_next {s t : State} (h : execHdrStep s = .next t) :
    ∃ bs, s.src = some bs ∧
      (bs.length ≤ s.cursor ∧
          (s.hdrIdx = 0 ∧ t = stopDone s ∨ s.hdrIdx ≠ 0 ∧ t = stopFatal .truncatedHeader s) ∨
        ∃ b, bs[s.cursor]? = some b ∧ s.cursor < bs.length ∧
          ∃ u : State, u = { s with cursor := s.cursor + 1, hdrIdx := s.hdrIdx + 1 } ∧
            (s.hdrIdx = 0 ∧ b ≠ Config.sync ∧
                t = stopFatal .lostSync (latchHeader ⟨b, 0, 0, 0, 0, 0, 0⟩ u) ∨
              s.hdrIdx = 0 ∧ b = Config.sync ∧ t = latchHeader ⟨b, 0, 0, 0, 0, 0, 0⟩ u ∨
              s.hdrIdx = 1 ∧ (b ≠ Config.size10 ∧ b ≠ Config.size12) ∧
                t = stopFatal .invalidHeaderSize { u with hdrSize := b } ∨
              s.hdrIdx = 1 ∧ (b = Config.size10 ∨ b = Config.size12) ∧ t = { u with hdrSize := b } ∨
              2 ≤ s.hdrIdx.toNat ∧ ∃ l, headerLane s.hdrSize s.hdrIdx.toNat = some l ∧
                (s.hdrIdx.toNat + 1 = s.hdrSize.toNat ∧ t = completeHeader (writeLane l b u) ∨
                  s.hdrIdx.toNat + 1 ≠ s.hdrSize.toNat ∧ t = writeLane l b u))) := by
  obtain ⟨bs, hs, ⟨h1, h2⟩ | ⟨b, hb, hlt, h⟩⟩ := readAtCursor_next h
  · refine ⟨bs, hs, .inl ⟨h1, ?_⟩⟩
    split at h2 <;> cases h2 <;> simp_all
  · refine ⟨bs, hs, .inr ⟨b, hb, hlt, _, rfl, ?_⟩⟩
    unfold headerByte at h
    split at h
    · rename_i h0
      have h0' : s.hdrIdx = 0 := BitVec.eq_of_toNat_eq h0
      cases h
      rcases headerByte0_cases b { seekForward s with hdrIdx := s.hdrIdx + 1 } with ⟨hb0, e⟩ | ⟨hb0, e⟩
      · exact .inl ⟨h0', hb0, e⟩
      · exact .inr (.inl ⟨h0', hb0, e⟩)
    · split at h
      · rename_i h1
        have h1' : s.hdrIdx = 1 := BitVec.eq_of_toNat_eq h1
        cases h
        rcases headerByte1_cases b { seekForward s with hdrIdx := s.hdrIdx + 1 } with ⟨hb1, e⟩ | ⟨hb1, e⟩
        · exact .inr (.inr (.inl ⟨h1', hb1, e⟩))
        · exact .inr (.inr (.inr (.inl ⟨h1', hb1, e⟩)))
      · obtain ⟨l, hl, h⟩ := headerField_next h
        exact .inr (.inr (.inr (.inr ⟨by omega, l, hl, h⟩)))

/-- Everything PAY_STEP can do (R142). -/
theorem execPayStep_next {s t : State} (h : execPayStep s = .next t) :
    s.payIdx = s.hdrDsize ∧ t = { s with fsm := .validating } ∨
      s.payIdx ≠ s.hdrDsize ∧ ∃ bs, s.src = some bs ∧
        (bs.length ≤ s.cursor ∧ t = stopDone (setTrunc s) ∨
          ∃ b, bs[s.cursor]? = some b ∧ s.cursor < bs.length ∧
            t = { addAcc (laneWord s.payIdx b) (seekForward s) with payIdx := s.payIdx + 1 }) := by
  unfold execPayStep at h
  split at h
  · cases h
    exact .inl ⟨by assumption, rfl⟩
  · refine .inr ⟨by assumption, ?_⟩
    obtain ⟨bs, hs, ⟨h1, h2⟩ | ⟨b, hb, hlt, h⟩⟩ := readAtCursor_next h
    · cases h2
      exact ⟨bs, hs, .inl ⟨h1, rfl⟩⟩
    · cases h
      exact ⟨bs, hs, .inr ⟨b, hb, hlt, rfl⟩⟩

/-- Everything EMIT can do (R161, R162). `u` is the state with the record counted and indexed. -/
theorem execEmit_next {s t : State} (h : execEmit s = .next t) :
    s.latBy ≠ 0 ∧ ∃ u,
      u = appendSelected (s.recCount.toNat + 1)
        { s with recCount := BitVec.ofNat 32 (s.recCount.toNat + 1) } ∧
      (s.latTo ≠ 0 ∧ s.recCount.toNat + 1 = s.latTo ∧ t = stopDone u ∨
        ¬(s.latTo ≠ 0 ∧ s.recCount.toNat + 1 = s.latTo) ∧
          t = { u with hdrIdx := 0, fsm := .decHdr }) := by
  unfold execEmit at h
  split at h
  · cases h
  · refine ⟨by assumption, _, rfl, ?_⟩
    simp only at h
    split at h <;> cases h
    · rename_i hh
      exact .inl ⟨hh.1, hh.2, rfl⟩
    · exact .inr ⟨by assumption, rfl⟩

/-! ### Turns -/

/-- What the whole-header turn does: the header that stands at CURSOR, or one Engine step (log 4). -/
theorem engineHeaderTurn_next {s t : State} (h : engineHeaderTurn s = .next t) :
    (∃ bs i rest, s.fsm = .decHdr ∧ s.hdrIdx = 0 ∧ s.src = some bs ∧
      decodeHeader (bs.drop s.cursor) = .ok (i, rest) ∧ exec i s = .next t) ∨
    engineTurn s = .next t := by
  simp only [engineHeaderTurn, headerAtCursor] at h
  split at h
  · rename_i i he
    split at he
    · rename_i hc
      split at he
      · cases he
      · rename_i bs hs
        split at he
        · rename_i hd
          cases he
          exact .inl ⟨bs, _, _, hc.1, hc.2, hs, hd, h⟩
        · cases he
    · cases he
  · exact .inr h

/-- What a host write that answers does: a command, an illegal command word, a store, or nothing (R37,
R181). -/
theorem hostWrite_next {s t : State} {p : Place} {bytes : Nat} {v : Word}
    (h : hostWrite p bytes v s = .next t) :
    (∃ i, decodeCommand v = .ok i ∧ exec i s = .next t) ∨ t = setCmdErr s ∨
      (∃ r, t = storeReg r v s) ∨ t = s := by
  simp only [hostWrite] at h
  split at h
  · cases h
  · simp only [writeOffset] at h
    split at h
    · cases h
      exact .inr (.inr (.inr rfl))
    · split at h
      · simp only [writeCommand] at h
        split at h
        · exact .inl ⟨_, by assumption, h⟩
        · cases h
          exact .inr (.inl rfl)
      · cases h
        exact .inr (.inr (.inl ⟨_, rfl⟩))

/-! ### The checksum -/

/-- One more payload byte (R140, R142): it adds its lane's word. -/
theorem sumWords_append (p : List Byte) (b : Byte) :
    sumWords (p ++ [b]) =
      sumWords p + (if p.length % 2 = 0 then b.setWidth 16 else b ++ (0x00 : Byte)) := by
  induction p using sumWords.induct with
  | case1 => simp [sumWords]
  | case2 c =>
    have h0 : (b ++ (0x00 : Byte)).toNat = 256 * b.toNat := by simpa using toNat_append_byte b 0
    have h : half c b = c.setWidth 16 + (b ++ (0x00 : Byte)) := by
      apply BitVec.eq_of_toNat_eq
      rw [BitVec.toNat_add, h0]
      unfold half
      rw [toNat_append_byte]
      simp
      omega
    show half c b + 0 = c.setWidth 16 + _
    rw [h]
    simp
  | case3 c d r ih =>
    have hp : (r.length + 1 + 1) % 2 = r.length % 2 := by omega
    simp only [List.cons_append, sumWords, ih, BitVec.add_assoc, List.length_cons, hp]

end Sys2Proof.Machine
end

