-- ==== Sys2Proof/Tests/Slice0.lean ====
section
/-! SUPPORT. The model's own tests: what WellFormed refuses, words written out from the spec's
encodings, one step for each instruction with the numbers of 95_test_vectors.md, and a witness for the
hypotheses of each statement. -/

namespace Sys2Proof.Tests

open Sys2Proof.Machine

/-! ### Well-formedness: one ill-formed term for each check -/

theorem test_wf10_refuses_other_sync : (Instr.hdr10 ⟨0xA4, 10, 0, 0, 0, 0, 0⟩).wf = false := by decide
theorem test_wf10_refuses_other_size : (Instr.hdr10 ⟨0xA5, 12, 0, 0, 0, 0, 0⟩).wf = false := by decide
theorem test_wf10_refuses_wide_dsize :
    (Instr.hdr10 ⟨0xA5, 10, 0, 0, 0x10000, 0, 0⟩).wf = false := by decide
theorem test_wf12_refuses_other_sync : (Instr.hdr12 ⟨0x00, 12, 0, 0, 0, 0, 0⟩).wf = false := by decide
theorem test_wf12_refuses_other_size : (Instr.hdr12 ⟨0xA5, 10, 0, 0, 0, 0, 0⟩).wf = false := by decide

/-! ### Decoding: words written out from R81, R82, R90 and R92 -/

theorem test_decode_hdr10 :
    decode (.frame [0xA5, 0x0A, 0x16, 0x10, 0x04, 0x00, 0xCC, 0x15, 0x17, 0xE6]) =
      .ok (.hdr10 ⟨0xA5, 0x0A, 0x16, 0x10, 0x00000004, 0x15CC, 0xE617⟩) := by decide
theorem test_decode_hdr12 :
    decode (.frame [0xA5, 0x0C, 0x15, 0x10, 0x70, 0x11, 0x01, 0x00, 0x94, 0x7A, 0x34, 0x12]) =
      .ok (.hdr12 ⟨0xA5, 0x0C, 0x15, 0x10, 0x00011170, 0x7A94, 0x1234⟩) := by decide
theorem test_decode_nop : decode (.command 0x00000000) = .ok .nop := by decide
theorem test_decode_start : decode (.command 0x00000001) = .ok .start := by decide
theorem test_decode_clear : decode (.command 0x00000002) = .ok .clear := by decide
theorem test_decode_csumSeed : decode (.command 0x00000003) = .ok .csumSeed := by decide
theorem test_decode_csumWord : decode (.command 0x00000004) = .ok .csumWord := by decide
theorem test_decode_seekStep : decode (.fsm 0b001) = .ok .seekStep := by decide
theorem test_decode_hdrStep : decode (.fsm 0b010) = .ok .hdrStep := by decide
theorem test_decode_payStep : decode (.fsm 0b011) = .ok .payStep := by decide
theorem test_decode_validate : decode (.fsm 0b100) = .ok .validate := by decide
theorem test_decode_emit : decode (.fsm 0b101) = .ok .emit := by decide

/-- What the decoder rejects, by name (R88, R91, R92; vectors HD-1, HD-2, HD-8, CM-9, CM-10). -/
theorem test_decode_rejects :
    decode (.frame [0x00, 0x0A]) = .error (.lostSync 0x00) ∧
    decode (.frame [0xA5, 0x0B]) = .error (.invalidHeaderSize 0x0B) ∧
    decode (.frame [0xA5, 0x0A, 0x16]) = .error .truncatedHeader ∧
    decode (.command 0x00000105) = .error (.illegalCommand 0x00000105) ∧
    decode (.command 0x00000103) = .error (.illegalCommand 0x00000103) ∧
    decode (.fsm 7) = .error (.noMicroOperation 7) := by decide

/-- The opcode table's rows of each format, the operand bits zero. -/
theorem test_decodeTableWord :
    decodeTableWord 16 0x0AA5 = some (.hdr10 ⟨0xA5, 10, 0, 0, 0, 0, 0⟩) ∧
    decodeTableWord 16 0x0CA5 = some (.hdr12 ⟨0xA5, 12, 0, 0, 0, 0, 0⟩) ∧
    decodeTableWord 32 0x00000004 = some .csumWord ∧
    decodeTableWord 8 0x5 = some .emit ∧ decodeTableWord 8 0x7 = none := by decide

/-! ### One step of each instruction -/

/-- The next state, where there is one. -/
def nextState (r : Result) : Option State :=
  match r with
  | .next t => some t
  | .fault _ => none
  | .refused _ => none

/-- A busy engine in scan state `f` over a byte string, everything else as after reset. -/
def scanning (f : Fsm) (bs : List Byte) : State :=
  { State.reset with fsm := f, srcOpen := true, src := some bs }

/-- SEEK_STEP's single-step vector, its second and third step. -/
theorem test_seek_skips :
    (nextState (exec .seekStep { scanning .seeking [0x00, 0x11, 0xA5, 0x0A] with cursor := 1 })).map
      (fun t => (t.fsm, t.cursor)) = some (.seeking, 2) := by decide
theorem test_seek_finds :
    (nextState (exec .seekStep { scanning .seeking [0x00, 0x11, 0xA5, 0x0A] with cursor := 2 })).map
      (fun t => (t.fsm, t.cursor, t.hdrIdx)) = some (.decHdr, 2, 0) := by decide

/-- HDR_STEP: the H10 completion vector, and the bad size byte of HD-2. -/
theorem test_hdr_completes :
    (nextState (exec .hdrStep { scanning .decHdr (List.replicate 10 0x00) with
      cursor := 9, hdrIdx := 9, hdrSize := 10, hdrHcsum := 0xFF34 })).map
      (fun t => (t.fsm, t.hdrIdx, t.hdrHcsum, t.payStart, t.acc)) =
        some (.readPay, 10, 0x0034, 10, 0xB58C) := by decide
theorem test_hdr_bad_size :
    (nextState (exec .hdrStep { scanning .decHdr [0xA5, 0x0B] with
      cursor := 1, hdrIdx := 1, hdrSync := 0xA5 })).map
      (fun t => readReg .status t) = some 0x00023006 := by decide

/-- PAY_STEP's single-step vector: the low lane, then the high lane. -/
theorem test_pay_low_lane :
    (nextState (exec .payStep { scanning .readPay [0x10, 0x20] with
      acc := 0xB58C, hdrDsize := 2 })).map
      (fun t => (t.acc, t.payIdx)) = some (0xB59C, 1) := by decide
theorem test_pay_high_lane :
    (nextState (exec .payStep { scanning .readPay [0x10, 0x20] with
      acc := 0xB59C, payIdx := 1, cursor := 1, hdrDsize := 2 })).map
      (fun t => (t.acc, t.payIdx)) = some (0xD59C, 2) := by decide

/-- VALIDATE's two single-step vectors. -/
theorem test_validate_match :
    (nextState (exec .validate { scanning .validating [] with acc := 0x15CC, hdrDcsum := 0x15CC })).map
      (fun t => (t.csumErr, t.fsm)) = some (false, .emitting) := by decide
theorem test_validate_mismatch :
    (nextState (exec .validate { scanning .validating [] with acc := 0xB790, hdrDcsum := 0 })).map
      (fun t => (t.csumErr, t.fsm)) = some (true, .emitting) := by decide

/-- EMIT's single-step vector, and the limit stop of EM-6. -/
theorem test_emit_appends :
    (nextState (exec .emit { scanning .emitting [] with
      payStart := 10, hdrDsize := 4, hdrId := 0x16, hdrIdx := 10 })).map
      (fun t => (t.recCount, t.records, t.hdrIdx, t.fsm)) =
        some (1, [⟨10, 4, 0x16⟩], 0, .decHdr) := by decide
theorem test_emit_limit :
    (nextState (exec .emit { scanning .emitting [] with
      latFrom := 3, latTo := 1, hdrIdx := 10 })).map
      (fun t => (t.records, readReg .status t)) = some ([], 0x000A0016) := by decide

/-- The whole header of P6: HDR_INFO, HDR_CSUMS and PAY_START. -/
theorem test_hdr10_registers :
    (nextState (exec (.hdr10 ⟨0xA5, 10, 0x16, 0x10, 4, 0x15CC, 0xE617⟩)
      (scanning .decHdr []))).map
      (fun t => (readReg .hdrInfo t, readReg .hdrCsums t, t.payStart)) =
        some (0x10160AA5, 0xE61715CC, 10) := by decide

/-- The whole header of property 6's instance. -/
theorem test_hdr12_registers :
    (nextState (exec (.hdr12 ⟨0xA5, 12, 0x15, 0x10, 70000, 0x7A94, 0⟩)
      (scanning .decHdr []))).map
      (fun t => (readReg .hdrDsize t, t.hdrIdx)) = some (0x00011170, 12) := by decide

/-- NOP while busy, vector CM-6. -/
theorem test_nop_busy :
    nextState (exec .nop { scanning .decHdr [] with cmdErr := true }) =
      some { scanning .decHdr [] with cmdErr := true } := by decide

/-- START, vectors CM-3 and CM-16. -/
theorem test_start_seeks :
    (nextState (exec .start { State.reset with src := some [0xA5, 0x0A] })).map
      (fun t => readReg .status t) = some 0x00000209 := by decide
theorem test_start_negative :
    (nextState (exec .start { State.reset with src := some [0xA5], cfgFrom := 0x80000000 })).map
      (fun t => readReg .status t) = some 0x00004006 := by decide

/-- CLEAR, vectors CM-8 and, rejected, the command interlock. -/
theorem test_clear_idle :
    (nextState (exec .clear { State.reset with
      fsm := .stopped, resultValid := true, cmdErr := true, acc := 0x0B36, cursor := 26 })).map
      (fun t => (readReg .status t, t.acc, t.cursor)) = some (0, 0x0B36, 0) := by decide
theorem test_clear_busy :
    (nextState (exec .clear (scanning .decHdr []))).map
      (fun t => readReg .status t) = some 0x0000030A := by decide

/-- CSUM_SEED, vectors CM-20 and CM-5. -/
theorem test_csumSeed :
    (nextState (exec .csumSeed State.reset)).map (fun t => t.acc) = some 0xB58C := by decide
theorem test_csumSeed_busy :
    (nextState (exec .csumSeed (scanning .decHdr []))).map
      (fun t => (t.acc, readReg .status t)) = some (0, 0x0000030A) := by decide

/-- CSUM_WORD, vectors CM-21 and CM-22. -/
theorem test_csumWord :
    (nextState (exec .csumWord { State.reset with acc := 0xB58C, csumData := 0x0AA5 })).map
      (fun t => t.acc) = some 0xC031 := by decide
theorem test_csumWord_wraps :
    (nextState (exec .csumWord { State.reset with acc := 0xB58C, csumData := 0x4A74 })).map
      (fun t => t.acc) = some 0x0000 := by decide

/-- Vectors CK-1, CK-7, CK-10 and CK-12 of the checksum function. -/
theorem test_checksum :
    checksum [] = 0xB58C ∧ checksum [0x01, 0x02, 0x03] = 0xB790 ∧
    checksum [0x10, 0x20, 0x30, 0x40] = 0x15CC ∧ checksum [0xDE, 0xAD, 0xBE, 0xEF] = 0x5328 := by
  decide

/-- Vector CM-23: CSUM_DATA keeps 16 bits. -/
theorem test_csumData_width :
    (nextState (step { State.reset with turns := [wr .csumData 0x12345678] })).map
      (fun t => readReg .csumData t) = some 0x00005678 := by decide

/-- Vector CM-9: an illegal command word. -/
theorem test_illegal_command :
    (nextState (step { State.reset with turns := [wr .cmd 0x00000105] })).map
      (fun t => readReg .status t) = some 0x00000100 := by decide

/-- Scan vector SK-1. -/
theorem test_scan_no_sync : scan 1 0 1 (some [0x00, 0x01, 0x02]) = .fatal 1 := by decide

/-! ### Witnesses: a state and operands that meet the hypotheses of each statement, clause by clause -/

/-- The largest header of each format, and the smallest H10 header. -/
def maxH10 : Header := ⟨0xA5, 10, 0xFF, 0xFF, 0xFFFF, 0xFFFF, 0xFFFF⟩
def maxH12 : Header := ⟨0xA5, 12, 0xFF, 0xFF, 0xFFFFFFFF, 0xFFFF, 0xFFFF⟩
def minH10 : Header := ⟨0xA5, 10, 0, 0, 0, 0, 0⟩

theorem witness_DecodeOfEncodeIsIdentity :
    maxH10.wf10 = true ∧ minH10.wf10 = true ∧ maxH12.wf12 = true ∧
    (Instr.hdr10 maxH10).wf = true ∧ (Instr.hdr12 maxH12).wf = true := by decide

theorem witness_EncodeOfDecodeIsIdentity :
    decodeHeader [0xA5, 0x0A, 0, 0, 0, 0, 0, 0, 0, 0, 0x77] = .ok (.hdr10 minH10, [0x77]) ∧
    decodeHeader (0xA5 :: 0x0C :: List.replicate 10 0xFF) = .ok (.hdr12 maxH12, []) ∧
    decode (.command 0x00000004) = .ok .csumWord ∧ decode (.fsm 5) = .ok .emit := by decide

theorem witness_CommandWordsSelectFiveCommands :
    5 ≤ (0x00000005 : Word).toNat ∧ 5 ≤ (0xFFFFFFFF : Word).toNat ∧
    5 ≤ (0x00000101 : Word).toNat := by decide

theorem witness_FirstTwoHeaderBytesSelectFormat :
    8 ≤ (List.replicate 8 (0 : Byte)).length ∧ 10 ≤ (List.replicate 10 (0 : Byte)).length ∧
    (0xA4 : Byte) ≠ 0xA5 ∧ (0x0B : Byte) ≠ 0x0A ∧ (0x0B : Byte) ≠ 0x0C := by decide

theorem witness_FsmCodeSelectsMicroOperation :
    ∀ c ∈ [(0 : BitVec 3), 6, 7], c = 0 ∨ c = 6 ∨ c = 7 := by decide

/-- SEEKING at positions 0, 1 and 2 of a two-byte stream: another byte, the sync byte, the end. -/
def seekAt (c : Nat) : State := { scanning .seeking [0x00, 0xA5] with cursor := c }

theorem witness_SeekStepFailsFindsOrSkips :
    (seekAt 2).src = some [0x00, 0xA5] ∧ [(0x00 : Byte), 0xA5].length ≤ (seekAt 2).cursor ∧
    [(0x00 : Byte), 0xA5][(seekAt 1).cursor]? = some 0xA5 ∧
    [(0x00 : Byte), 0xA5][(seekAt 0).cursor]? = some 0x00 ∧ (0x00 : Byte) ≠ 0xA5 := by decide

/-- DEC_HDR with `k` header bytes consumed of a header of size `size`, every byte of the stream `b`. -/
def headerAt (size : Byte) (k : Nat) (b : Byte) : State :=
  { scanning .decHdr (List.replicate 12 b) with
    cursor := k, hdrIdx := BitVec.ofNat 4 k, hdrSync := 0xA5, hdrSize := size }

theorem witness_HdrStepAtEndOfStream :
    (headerAt 12 12 0).src = some (List.replicate 12 0) ∧
    (List.replicate 12 (0 : Byte)).length ≤ (headerAt 12 12 0).cursor ∧
    (headerAt 12 12 0).hdrIdx ≠ 0 ∧
    { headerAt 12 12 0 with hdrIdx := 0 }.hdrIdx = 0 := by decide

theorem witness_HdrStepByteZero :
    (∀ b ∈ [(0xA5 : Byte), 0xA4],
      (List.replicate 12 b)[(headerAt 0 0 b).cursor]? = some b ∧ (headerAt 0 0 b).hdrIdx = 0 ∧
      (headerAt 0 0 b).src = some (List.replicate 12 b)) ∧ (0xA4 : Byte) ≠ 0xA5 := by decide

theorem witness_HdrStepByteOne :
    (∀ b ∈ [(10 : Byte), 12, 9, 11, 13],
      (List.replicate 12 b)[(headerAt 0 1 b).cursor]? = some b ∧ (headerAt 0 1 b).hdrIdx = 1 ∧
      (headerAt 0 1 b).src = some (List.replicate 12 b)) ∧
    (∀ b ∈ [(9 : Byte), 11, 13], b ≠ 10 ∧ b ≠ 12) := by decide

theorem witness_HdrStepFillsH10Fields :
    ∀ k ∈ List.range' 2 8, (headerAt 10 k 7).hdrSize = 10 ∧
      (headerAt 10 k 7).hdrIdx = BitVec.ofNat 4 k ∧
      (List.replicate 12 (7 : Byte))[(headerAt 10 k 7).cursor]? = some 7 := by decide

theorem witness_HdrStepFillsH12Fields :
    ∀ k ∈ List.range' 2 10, (headerAt 12 k 7).hdrSize = 12 ∧
      (headerAt 12 k 7).hdrIdx = BitVec.ofNat 4 k ∧
      (List.replicate 12 (7 : Byte))[(headerAt 12 k 7).cursor]? = some 7 := by decide

theorem witness_WholeHeaderLatchesItsFields :
    maxH10.wf10 = true ∧ minH10.wf10 = true ∧ maxH12.wf12 = true := by decide

theorem witness_HeaderStepsComposeToWholeHeader :
    (scanning .decHdr (encodeH10 maxH10)).fsm = .decHdr ∧
    (scanning .decHdr (encodeH10 maxH10)).hdrIdx = 0 ∧
    (scanning .decHdr (encodeH10 maxH10)).src = some (encodeH10 maxH10) ∧
    decodeHeader ((encodeH10 maxH10).drop 0) = .ok (.hdr10 maxH10, []) ∧
    decodeHeader ((encodeH12 maxH12).drop 0) = .ok (.hdr12 maxH12, []) := by decide

/-- READ_PAY with `i` bytes consumed of a two-byte payload, `n` bytes in the stream. -/
def payloadAt (i n : Nat) : State :=
  { scanning .readPay (List.replicate n 0xFF) with
    cursor := i, payIdx := BitVec.ofNat 32 i, hdrDsize := 2, acc := 0xFFFF }

theorem witness_PayStepFinishesTruncatesOrAdds :
    (payloadAt 2 2).payIdx = (payloadAt 2 2).hdrDsize ∧
    (payloadAt 1 1).payIdx ≠ (payloadAt 1 1).hdrDsize ∧
    (payloadAt 1 1).src = some [0xFF] ∧ [(0xFF : Byte)].length ≤ (payloadAt 1 1).cursor ∧
    (payloadAt 1 2).payIdx ≠ (payloadAt 1 2).hdrDsize ∧
    (payloadAt 1 2).src = some [0xFF, 0xFF] ∧
    [(0xFF : Byte), 0xFF][(payloadAt 1 2).cursor]? = some 0xFF := by decide

theorem witness_ValidateRecordsMismatch :
    { State.reset with acc := 0xB790 }.acc ≠ { State.reset with acc := 0xB790 }.hdrDcsum ∧
    State.reset.acc = State.reset.hdrDcsum := by decide

/-- EMITTING after `n` decoded records, with limit `t`. -/
def emitAt (n t : Nat) : State :=
  { scanning .emitting [] with recCount := BitVec.ofNat 32 n, latTo := t }

theorem witness_EmitCountsSelectsAndStops :
    1 ≤ (emitAt 0 1).latBy ∧ 1 = (emitAt 0 1).recCount.toNat + 1 ∧
    ((emitAt 0 1).latTo ≠ 0 ∧ 1 = (emitAt 0 1).latTo) ∧
    ¬((emitAt 0 0).latTo ≠ 0 ∧ 1 = (emitAt 0 0).latTo) ∧
    ¬((emitAt 0 2).latTo ≠ 0 ∧ 1 = (emitAt 0 2).latTo) := by decide

theorem witness_UnreachableStatesFaultByName :
    State.reset.src = none ∧ { State.reset with payIdx := 1 }.payIdx ≠ State.reset.hdrDsize ∧
    (headerAt 10 10 7).src = some (List.replicate 12 7) ∧
    (List.replicate 12 (7 : Byte))[(headerAt 10 10 7).cursor]? = some 7 ∧
    2 ≤ (headerAt 10 10 7).hdrIdx.toNat ∧
    (headerAt 10 10 7).hdrSize.toNat ≤ (headerAt 10 10 7).hdrIdx.toNat ∧
    (headerAt 11 2 7).hdrSize ≠ 10 ∧ (headerAt 11 2 7).hdrSize ≠ 12 ∧
    2 ≤ (headerAt 11 2 7).hdrIdx.toNat ∧ { State.reset with latBy := 0 }.latBy = 0 := by decide

/-- START's checks at their boundaries: -1, 0 and the most negative bound fail, 1 and 0 pass. -/
theorem witness_StartChecksThenSeeks :
    busy State.reset = false ∧ busy (scanning .seeking []) = true ∧
    ((0 : Word).toInt ≤ 0 ∧ (0xFFFFFFFF : Word).toInt < 0 ∧ (0x80000000 : Word).toInt ≤ 0) ∧
    (0 < State.reset.cfgFrom.toInt ∧ 0 ≤ State.reset.cfgTo.toInt ∧ 0 < State.reset.cfgBy.toInt) ∧
    State.reset.src = none ∧ ([] : List Byte).length < 2 ^ 32 := by decide

theorem witness_StartChecksThenSeeks_tooLong :
    ∃ (s : State) (bs : List Byte), busy s = false ∧ 0 < s.cfgFrom.toInt ∧ 0 ≤ s.cfgTo.toInt ∧
      0 < s.cfgBy.toInt ∧ s.src = some bs ∧ 2 ^ 32 ≤ bs.length :=
  ⟨{ State.reset with src := some (List.replicate (2 ^ 32) 0) }, List.replicate (2 ^ 32) 0, rfl,
    by decide, by decide, by decide, rfl, by rw [List.length_replicate]⟩

theorem witness_ClearReturnsToIdle :
    busy State.reset = false ∧ busy { State.reset with fsm := .stopped } = false ∧
    busy (scanning .decHdr []) = true := by decide
theorem witness_CsumSeedSeedsAccumulator :
    busy State.reset = false ∧ busy { State.reset with fsm := .stopped } = false ∧
    busy (scanning .decHdr []) = true := by decide
theorem witness_CsumWordAddsOperand :
    busy { State.reset with acc := 0xFFFF, csumData := 1 } = false ∧
    busy (scanning .decHdr []) = true := by decide

theorem witness_CommandWriteDispatch :
    { State.reset with turns := [.write (.offset 0x00) 4 5] }.turns =
      .write (.offset 0x00) 4 5 :: [] ∧
    5 ≤ (5 : Word).toNat ∧ 1 ≤ (1 : Word).toNat ∧ (4 : Word).toNat ≤ 4 ∧
    busy (scanning .seeking []) = true ∧ busy (scanning .emitting []) = true ∧
    busy State.reset = false := by decide

theorem witness_BusyEngineRejectsCommands :
    Instr.csumWord ∈ [Instr.start, .clear, .csumSeed, .csumWord] ∧
    busy (scanning .seeking []) = true ∧ busy (scanning .emitting []) = true := by decide

/-- Each of the six fatal stops, from a state with FATAL_CODE 0. -/
theorem witness_FatalStopLeavesNoResult :
    (nextState (exec .seekStep (seekAt 2))).map (fun t => t.fatalCode) = some 1 ∧
    (nextState (exec .hdrStep (headerAt 12 12 0))).map (fun t => t.fatalCode) = some 2 ∧
    (nextState (exec .hdrStep (headerAt 0 1 11))).map (fun t => t.fatalCode) = some 3 ∧
    (nextState (exec .start { State.reset with cfgBy := 0 })).map (fun t => t.fatalCode) = some 4 ∧
    (nextState (exec .start State.reset)).map (fun t => t.fatalCode) = some 5 ∧
    (nextState (exec .hdrStep (headerAt 0 0 0))).map (fun t => t.fatalCode) = some 6 ∧
    (seekAt 2).fatalCode = 0 ∧ State.reset.fatalCode = 0 := by decide

/-- Each of the three stops with a result, from a state with RESULT_VALID 0. -/
theorem witness_ResultStopKeepsRecords :
    (nextState (exec .hdrStep (scanning .decHdr []))).map (fun t => t.resultValid) = some true ∧
    (nextState (exec .payStep (payloadAt 1 1))).map (fun t => t.resultValid) = some true ∧
    (nextState (exec .emit (emitAt 0 1))).map (fun t => t.resultValid) = some true ∧
    (payloadAt 1 1).resultValid = false := by decide

theorem witness_ResetGivesResetValues :
    { scanning .readPay [1] with turns := [.reset] }.turns = .reset :: [] := by decide

theorem witness_StepRunsDecodedInstruction :
    decode (.fsm (fsmCode (seekAt 0).fsm)) = .ok .seekStep ∧ (seekAt 0).turns = [] ∧
    decode (.command 1) = .ok .start ∧
    { State.reset with turns := [.write (.bus Config.baseAddr) 4 1] }.turns =
      .write (.bus Config.baseAddr) 4 1 :: [] ∧
    (scanning .decHdr (encodeH12 maxH12)).src = some (encodeH12 maxH12) ∧
    decode (.frame ((encodeH12 maxH12).drop (scanning .decHdr []).cursor)) = .ok (.hdr12 maxH12) :=
  ⟨by decide, by decide, by decide, rfl, by decide, by decide⟩

theorem witness_IdleEngineKeepsState :
    State.reset.fsm = .idle ∧ { State.reset with fsm := .stopped }.fsm = .stopped ∧
    State.reset.turns = [] := by decide

theorem witness_FsmTransitionsAreTheTable :
    (nextState (step (seekAt 1))).map (fun t => t.fsm) = some .decHdr ∧ (seekAt 1).turns = [] := by
  decide

/-- Program P1 after its 29th Engine step: one record found, and one payload byte of two consumed of
the second frame, whose header begins at 14. -/
def midScan : State :=
  { State.reset with
    fsm := .readPay
    cursor := 25
    acc := 0xB636
    hdrSync := 0xA5
    hdrSize := 10
    hdrId := 0x17
    hdrFamily := 0x10
    hdrDsize := 2
    hdrDcsum := 0x0B36
    hdrIdx := 10
    payIdx := 1
    payStart := 24
    recCount := 1
    records := [⟨10, 4, 0x16⟩]
    srcOpen := true
    src := some
      [0xA5, 0x0A, 0x16, 0x10, 0x04, 0x00, 0xCC, 0x15, 0x00, 0x00, 0x10, 0x20, 0x30, 0x40,
       0xA5, 0x0A, 0x17, 0x10, 0x02, 0x00, 0x36, 0x0B, 0x00, 0x00, 0xAA, 0x55] }

theorem midScan_inv : Inv midScan := by constructor <;> decide

theorem witness_StepKeepsInvariant :
    Inv midScan ∧ (nextState (step midScan)).map (fun t => (t.acc, t.payIdx)) = some (0x0B36, 2) :=
  ⟨midScan_inv, by decide⟩

/-- The three turns that always answer, and the four refusals, from states with the invariant. -/
theorem witness_InvariantStatesNeverFault :
    Inv midScan ∧ midScan.turns = [] ∧ Inv { midScan with turns := [.wait] } ∧
    Inv { midScan with turns := [.detach] } ∧
    step { midScan with turns := [.detach] } = .refused .sourceHeld ∧
    step { midScan with turns := [.read (.offset 2) 4] } = .refused .notWholeWord ∧
    step { midScan with turns := [.read (.offset 0x100) 4] } = .refused .outsideBlock :=
  ⟨midScan_inv, rfl, by constructor <;> decide, by constructor <;> decide, rfl, rfl, rfl⟩

/-- After reset, the byte source `bs` and START. -/
def starting (bs : List Byte) : State := { State.reset with src := some bs, turns := [wr .cmd 1] }

/-- With BUSY = 0 nothing of the invariant speaks of the source, so it holds as it does after reset. -/
theorem starting_inv (bs : List Byte) : Inv (starting bs) :=
  have r : Inv State.reset := by constructor <;> decide
  { r with source := fun h => absurd h Bool.false_ne_true }

theorem starting_too_long (bs : List Byte) (h : Config.posBound ≤ bs.length) :
    step (starting bs) = .refused .streamTooLong := by
  show (if Config.posBound ≤ bs.length then _ else _) = _
  exact if_pos h

/-- The fourth refusal: START of a source of exactly 2^32 bytes. -/
theorem witness_InvariantStatesNeverFault_tooLong :
    ∃ s : State, Inv s ∧ step s = .refused .streamTooLong :=
  ⟨_, starting_inv (List.replicate (2 ^ 32) 0),
    starting_too_long _ (Nat.le_of_eq List.length_replicate.symm)⟩

theorem witness_StepKeepsChecksumInAccumulator :
    Inv midScan ∧ AccHoldsChecksum midScan ∧ payloadPhase midScan = true ∧
    (nextState (step midScan)).isSome = true :=
  ⟨midScan_inv, fun _ => by decide, by decide, by decide⟩

theorem witness_StepKeepsSelectionCount :
    Inv midScan ∧ RecordsAreSelection midScan ∧ busy midScan = true ∧
    (nextState (step midScan)).isSome = true :=
  ⟨midScan_inv, fun _ => by decide, by decide, by decide⟩

theorem witness_InstructionsLeaveHostState :
    (nextState (exec .payStep midScan)).isSome = true ∧
    Instr.emit ∈ [Instr.nop, .start, .clear, .seekStep, .validate, .emit] ∧
    (nextState (exec .emit (emitAt 0 0))).isSome = true ∧ Instr.payStep ≠ .start := by decide

theorem witness_RecordsAreOnlyAppendedOrEmptied :
    (nextState (exec .emit (emitAt 0 0))).map (fun t => t.records) = some [⟨0, 0, 0⟩] := by decide

theorem witness_EngineStepMovesCursorByAtMostOne :
    (seekAt 0).src = some [0x00, 0xA5] ∧
    (nextState (engineTurn (seekAt 0))).map (fun t => t.cursor) = some 1 ∧
    (seekAt 2).cursor ≤ [(0x00 : Byte), 0xA5].length := by decide

/-- A result with one record, and REC_SEL at it and past it. -/
def shown (sel : Word) : State :=
  { State.reset with
    fsm := .stopped, resultValid := true, records := [⟨10, 4, 0x16⟩], recSel := sel }

theorem witness_RecordReadout :
    (shown 0).resultValid = true ∧ (shown 0).records[(shown 0).recSel.toNat]? = some ⟨10, 4, 0x16⟩ ∧
    (shown 1).records.length ≤ (shown 1).recSel.toNat ∧ State.reset.resultValid = false := by decide

theorem witness_RegisterMapReads : 0x48 ≤ 0x48 ∧ 0x48 ≤ 0xFC ∧ 0xFC ≤ 0xFC := by decide

theorem witness_StatusFields :
    readOffset 0x04 State.reset = 0 ∧
    { State.reset with turns := [rd .status] }.turns = .read (.offset 0x04) 4 :: [] ∧
    { State.reset with turns := [wr .status 7] }.turns = .write (.offset 0x04) 4 7 :: [] := by decide

theorem witness_HostReadHasNoSideEffect :
    0xFC % 4 = 0 ∧ 0xFC ≤ 0xFC ∧ 0x00 % 4 = 0 ∧
    { State.reset with turns := [.read (.offset 0xFC) 4] }.turns = .read (.offset 0xFC) 4 :: [] := by
  decide

theorem witness_HostWriteStoresOrIsIgnored :
    { State.reset with turns := [.write (.offset 0xFC) 4 7] }.turns =
      .write (.offset 0xFC) 4 7 :: [] ∧
    (∀ o ∈ [0x04, 0x3C, 0x48, 0xFC],
      o % 4 = 0 ∧ o ≤ 0xFC ∧ o ∉ [0x00, 0x08, 0x0C, 0x10, 0x18, 0x38]) := by decide

theorem witness_OtherAccessesAreRefused :
    { State.reset with turns := [.read (.offset 0xFF) 4] }.turns = .read (.offset 0xFF) 4 :: [] ∧
    0xFF < 0x100 ∧ 0xFF % 4 ≠ 0 ∧ 2 ≠ 4 ∧ 0x100 ≤ 0x100 := by decide

theorem witness_BusAddressesReachTheBlock :
    0xFF < 0x100 ∧ Config.baseAddr + 0x100 ≤ Config.baseAddr + 0x100 := ⟨by decide, Nat.le_refl _⟩

theorem witness_SourceMovesOnlyWhileIdle :
    { State.reset with turns := [.attach [1]] }.turns = .attach [1] :: [] ∧
    { State.reset with turns := [.detach] }.turns = .detach :: [] ∧
    busy { State.reset with turns := [.detach] } = false ∧
    busy { midScan with turns := [.detach] } = true := by decide

theorem witness_WaitPollsStatus :
    { State.reset with turns := [.wait] }.turns = .wait :: [] ∧
    busy { State.reset with turns := [.wait] } = false ∧
    busy { midScan with turns := [.wait] } = true := by decide

theorem witness_ChecksumSeesOneByteNotTwo :
    [(0xFF : Byte)][0]? = some 0xFF ∧ (0 : Byte) ≠ 0xFF ∧ (0xFE : Byte) ≠ 0xFF ∧
    (0x01 : Byte) ≠ 0x00 := by decide

theorem witness_SeekingTakesSkippedBytesPlusOne :
    (seekAt 0).fsm = .seeking ∧ [(0x00 : Byte), 0xA5][(seekAt 0).cursor + 1]? = some 0xA5 ∧
    (∀ j < 1, [(0x00 : Byte), 0xA5][(seekAt 0).cursor + j]? ≠ some 0xA5) ∧
    [(0x00 : Byte), 0xA5][(seekAt 1).cursor + 0]? = some 0xA5 ∧
    (seekAt 2).cursor ≤ [(0x00 : Byte), 0xA5].length ∧
    0xA5 ∉ [(0x00 : Byte), 0xA5].drop (seekAt 2).cursor := by decide

theorem witness_StreamWithoutSyncIsFatal :
    0 < (1 : Word).toInt ∧ 0 ≤ (0 : Word).toInt ∧ ([] : List Byte).length < 2 ^ 32 ∧
    0xA5 ∉ ([] : List Byte) ∧ 0xA5 ∉ [(0x00 : Byte), 0xFF] := by decide

/-- Two frames of the two formats, one with an empty payload and one that does not sum. -/
def frameA : Frame := ⟨⟨0xA5, 10, 0x16, 0x10, 0, 0xB58C, 0⟩, []⟩
def frameB : Frame := ⟨⟨0xA5, 12, 0x15, 0x10, 3, 0x0000, 0⟩, [1, 2, 3]⟩

theorem witness_WholeFrameIsDecodedAndIndexed :
    (scanning .decHdr (frameBytes frameB)).fsm = .decHdr ∧
    (scanning .decHdr (frameBytes frameB)).hdrIdx = 0 ∧
    1 ≤ (scanning .decHdr (frameBytes frameB)).latBy ∧
    decodeHeader ((frameBytes frameB).drop 0) = .ok (.hdr12 frameB.header, [1, 2, 3]) ∧
    frameB.header.dsize.toNat ≤ [(1 : Byte), 2, 3].length ∧
    decodeHeader ((frameBytes frameA).drop 0) = .ok (.hdr10 frameA.header, []) ∧
    frameA.header.dsize.toNat ≤ ([] : List Byte).length ∧
    ((emitAt 0 1).latTo ≠ 0 ∧ 1 = (emitAt 0 1).latTo) := by decide

theorem witness_TruncatedFrameStopsWithResult :
    decodeHeader ((headerBytes frameB.header ++ [1, 2]).drop 0) =
      .ok (.hdr12 frameB.header, [1, 2]) ∧
    [(1 : Byte), 2].length < frameB.header.dsize.toNat ∧
    decodeHeader ((encodeH10 maxH10).drop 0) = .ok (.hdr10 maxH10, []) ∧
    ([] : List Byte).length < maxH10.dsize.toNat := by decide

theorem witness_ScanOfWholeFramesGivesTheirRecords :
    0xA5 ∉ [(0x00 : Byte), 0xFF, 0x5A] ∧ [frameA, frameB] ≠ [] ∧
    (∀ f ∈ [frameA, frameB], frameWf f = true) ∧
    ([0x00, 0xFF, 0x5A] ++ streamBytes [frameA, frameB]).length < 2 ^ 32 ∧
    0 < (1 : Word).toInt := by decide

theorem witness_ScanOfWholeFramesTakesExactSteps :
    ∃ s s1 : State, busy s = false ∧ (∀ f ∈ [frameA, frameB], frameWf f = true) ∧
      s.src = some (streamBytes [frameA, frameB]) ∧ s.cfgTo = 0 ∧
      exec .start s = .next s1 ∧ s1.fsm = .seeking :=
  ⟨{ State.reset with src := some (streamBytes [frameA, frameB]) }, _, rfl, by decide, rfl, rfl, rfl,
    rfl⟩

/-- A START that begins a scan and one that fails. -/
theorem witness_EveryScanTerminates :
    busy { State.reset with src := some [0x00] } = false ∧
    (nextState (exec .start { State.reset with src := some [0x00] })).map (fun t => t.fsm) =
      some .seeking ∧
    (nextState (exec .start State.reset)).map (fun t => t.fsm) = some .stopped := by decide

theorem witness_BusyHostAccessLeavesScan :
    busy { midScan with turns := [wr .cfgTo 1] } = true ∧
    enabledWhileBusy (wr .cfgTo 1) = true ∧ wr .cfgTo 1 ≠ .engine ∧
    enabledWhileBusy (wr .cmd 1) = true ∧ enabledWhileBusy (rd .status) = true := by decide

theorem witness_EngineStepDependsOnScanOnly :
    scanView midScan = scanView { midScan with cfgTo := 9, cmdErr := true } ∧
    (nextState (engineTurn midScan)).isSome = true := by decide

/-- A schedule that polls STATUS, lets the engine move once, and writes START while busy; then the
engine's step that stops the scan of the one-byte stream 00. -/
def interleaved : State :=
  { scanning .seeking [0x00] with turns := [rd .status, .engine, wr .cmd 1] ++ [.engine] }

theorem interleaved_busy (k : Nat) (hk : k ≤ 3) (u : State)
    (h : Host.Core.run Sys2Proof.core k interleaved = .next u) : busy u = true := by
  match k, hk, h with
  | 0, _, h => cases h; decide
  | 1, _, h => cases h; decide
  | 2, _, h => cases h; decide
  | 3, _, h => cases h; decide

theorem witness_ScanOutcomeIgnoresInterleaving :
    busy { State.reset with src := some [0x00] } = false ∧
    exec .start { State.reset with src := some [0x00] } = .next (scanning .seeking [0x00]) ∧
    (∀ t ∈ [rd .status, .engine, wr .cmd 1], enabledWhileBusy t = true) ∧
    (∀ k ≤ 3, ∀ u, Host.Core.run Sys2Proof.core k interleaved = .next u → busy u = true) ∧
    ∃ v, Host.Core.run Sys2Proof.core 4 interleaved = .next v ∧ v.fsm = .stopped :=
  ⟨rfl, rfl, by decide, interleaved_busy, _, rfl, rfl⟩

end Sys2Proof.Tests
end

section
/-! Proofs for 00_scope.md: where the model stops by a fault of its own, one rule for each fault and
the micro-operations that raise it (log 8). -/

namespace Sys2Proof.Machine

/-! ### `noSourceHeld` -/

/-- A read at CURSOR with no source attached has no string to speak of (R62). -/
theorem readAtCursor_of_no_source {s : State} {e : Result} {f : Byte → Result}
    (hs : s.src = none) : readAtCursor s e f = .fault .noSourceHeld := by
  simp [readAtCursor, hs]

theorem execSeekStep_of_no_source {s : State} (hs : s.src = none) :
    execSeekStep s = .fault .noSourceHeld :=
  readAtCursor_of_no_source hs

theorem execHdrStep_of_no_source {s : State} (hs : s.src = none) :
    execHdrStep s = .fault .noSourceHeld :=
  readAtCursor_of_no_source hs

/-- While payload bytes are due PAY_STEP is a read at CURSOR (R142). -/
theorem execPayStep_of_unfinished {s : State} (hp : s.payIdx ≠ s.hdrDsize) :
    execPayStep s = readAtCursor s (.next (stopDone (setTrunc s))) fun b =>
      .next { addAcc (laneWord s.payIdx b) (seekForward s) with payIdx := s.payIdx + 1 } :=
  if_neg hp

/-! ### `noHeaderField` -/

/-- The complement of R123's table from byte 2 on: another size than 10 and 12, or a byte past the
header's end. -/
theorem headerLane_eq_none {size : Byte} {k : Nat}
    (h : size ≠ 10 ∧ size ≠ 12 ∨ size.toNat ≤ k) : headerLane size k = none := by
  have hno : ¬((headerLane size k).isSome = true) := by
    rw [headerLane_isSome_iff]
    rintro (⟨rfl, -, hk⟩ | ⟨rfl, -, hk⟩)
    · obtain ⟨h10, -⟩ | hle := h
      · exact h10 rfl
      · exact absurd hk (Nat.not_lt.mpr hle)
    · obtain ⟨-, h12⟩ | hle := h
      · exact h12 rfl
      · exact absurd hk (Nat.not_lt.mpr hle)
  simpa using hno

theorem headerField_of_no_lane {k : Nat} {s : State} (b : Byte)
    (h : headerLane s.hdrSize k = none) : headerField k b s = .fault .noHeaderField := by
  simp [headerField, h]

/-- From byte 2 on a header byte belongs to a field of R123's table. -/
theorem headerByte_of_two_le {k : Nat} (b : Byte) (s : State) (hk : 2 ≤ k) :
    headerByte k b s = headerField k b s := by
  have h0 : k ≠ 0 := by omega
  have h1 : k ≠ 1 := by omega
  simp [headerByte, h0, h1]

/-- HDR_STEP at a byte of the source dispatches on the header bytes consumed before it (R120). -/
theorem execHdrStep_at_byte {s : State} {bs : List Byte} {b : Byte}
    (hs : s.src = some bs) (hb : bs[s.cursor]? = some b) :
    execHdrStep s =
      headerByte s.hdrIdx.toNat b { seekForward s with hdrIdx := s.hdrIdx + 1 } :=
  readAtCursor_at_byte hs hb

/-! ### `zeroStride` -/

theorem execEmit_of_zero_stride {s : State} (h : s.latBy = 0) :
    execEmit s = .fault .zeroStride :=
  if_pos h

/-! ### The statement -/

/-- Settles O18: each fault by its own rule above. -/
theorem unreachableStatesFaultByName : Obligations.UnreachableStatesFaultByName := by
  intro s
  refine ⟨fun hs => ⟨execSeekStep_of_no_source hs, execHdrStep_of_no_source hs, fun hp => ?_⟩,
    fun bs b hs hb hk hsize => ?_, execEmit_of_zero_stride⟩
  · calc exec .payStep s
        = readAtCursor s _ _ := execPayStep_of_unfinished hp
      _ = .fault .noSourceHeld := readAtCursor_of_no_source hs
  · calc exec .hdrStep s
        = headerByte s.hdrIdx.toNat b _ := execHdrStep_at_byte hs hb
      _ = headerField s.hdrIdx.toNat b _ := headerByte_of_two_le b _ hk
      _ = .fault .noHeaderField := headerField_of_no_lane b (headerLane_eq_none hsize)

end Sys2Proof.Machine
end

section
/-! Proofs for 10_state.md: facts about the model's operations that the statements of this family
share, in the order of the definitions they speak of. -/

namespace Sys2Proof.Machine

/-! ### Header bytes -/

/-- The two low bytes of a data size keep it below 2^16. -/
theorem setByte_lt_of_low_lane {v : Word} {j : Nat} (b : Byte) (hv : v.toNat < 2 ^ 16)
    (hj : j < 2) : (setByte v j b).toNat < 2 ^ 16 := by
  apply Nat.lt_pow_two_of_testBit
  intro i hi
  by_cases hw : i < 32
  · have hbit := getLsbD_setByte v j b i hw
    rw [if_neg (by omega)] at hbit
    calc (setByte v j b).toNat.testBit i
        = v.toNat.testBit i := hbit
      _ = false := Nat.testBit_lt_two_pow (hv.trans_le (Nat.pow_le_pow_right (by omega) hi))
  · exact BitVec.getLsbD_of_ge _ _ (by omega)

/-- An H10 header has only the two low bytes of the data size (R123). -/
theorem laneH10_dsize {k j : Nat} (h : laneH10 k = some (.dsize j)) : j < 2 := by
  unfold laneH10 at h
  repeat' split at h
  all_goals simp at h <;> omega

/-- What the decoder reads at the start of a byte string: a header of one of the two formats, all of
whose bytes are there (R81, R82, R88). -/
theorem decodeHeader_ok {bytes rest : List Byte} {i : Instr}
    (hd : decodeHeader bytes = .ok (i, rest)) :
    ∃ h : Header, h.sync = Config.sync ∧ h.size.toNat ≤ bytes.length ∧
      (i = .hdr10 h ∧ h.size = Config.size10 ∧ h.dsize.toNat < 2 ^ 16 ∨
        i = .hdr12 h ∧ h.size = Config.size12) := by
  unfold decodeHeader at hd
  split at hd
  · cases hd
  · rename_i b0 rest0
    split at hd
    · cases hd
    · rename_i hsync
      replace hsync : b0 = Config.sync := by simpa using hsync
      split at hd
      · cases hd
      · rename_i b1 rest1
        split at hd
        · rename_i h10
          unfold decodeH10 at hd
          split at hd
          · cases hd
            refine ⟨_, hsync, by simp [h10, Config.size10], .inl ⟨rfl, h10, ?_⟩⟩
            simp [BitVec.toNat_setWidth]
            omega
          · cases hd
        · split at hd
          · rename_i h12
            unfold decodeH12 at hd
            split at hd
            · cases hd
              exact ⟨_, hsync, by simp [h12, Config.size12], .inr ⟨rfl, h12⟩⟩
            · cases hd
          · cases hd

/-! ### Codes and counters -/

theorem fatalNumber_range (e : FatalError) : fatalNumber e ≠ 0 ∧ (fatalNumber e).toNat ≤ 6 := by
  cases e <;> decide

/-- A register value read as signed is below 2^31 (R33). -/
theorem toInt_toNat_lt (v : Word) : v.toInt.toNat < 2 ^ 31 := by
  have := BitVec.toInt_lt (x := v)
  simp at this
  omega

/-- HDR_IDX does not wrap inside a header (R26). -/
theorem toNat_hdrIdx_succ {k : BitVec 4} (h : k.toNat < 12) : (k + 1).toNat = k.toNat + 1 := by
  rw [BitVec.toNat_add]
  exact Nat.mod_eq_of_lt (by simp; omega)

/-- PAY_IDX does not wrap before the payload's end (R27). -/
theorem toNat_payIdx_succ {i n : Word} (hle : i.toNat ≤ n.toNat) (hne : i ≠ n) :
    (i + 1).toNat = i.toNat + 1 ∧ i.toNat < n.toNat := by
  have hlt : i.toNat < n.toNat := lt_of_le_of_ne hle fun e => hne (BitVec.eq_of_toNat_eq e)
  have hn := n.isLt
  refine ⟨?_, hlt⟩
  rw [BitVec.toNat_add]
  exact Nat.mod_eq_of_lt (by simp; omega)

theorem knownSize_iff (s : State) :
    knownSize s = true ↔ s.hdrSize = Config.size10 ∨ s.hdrSize = Config.size12 := by
  simp [knownSize]

theorem knownSize_range {s : State} (h : knownSize s = true) :
    10 ≤ s.hdrSize.toNat ∧ s.hdrSize.toNat ≤ 12 := by
  obtain e | e := (knownSize_iff s).mp h <;> rw [e] <;> decide

theorem payloadPhase_iff (s : State) :
    payloadPhase s = true ↔ s.fsm = .readPay ∨ s.fsm = .validating ∨ s.fsm = .emitting := by
  simp [payloadPhase, or_assoc]

theorem busy_of_payloadPhase {s : State} (h : payloadPhase s = true) : busy s = true := by
  obtain e | e | e := (payloadPhase_iff s).mp h <;> simp [busy_iff, e]

/-! ### Commands and EMIT, by case -/

/-- A command that always answers, under the interlock of R181. -/
theorem unlessBusy_update_next {s t : State} {f : State → State}
    (h : unlessBusy s (fun u => .next (f u)) = .next t) :
    busy s = true ∧ t = setCmdErr s ∨ busy s = false ∧ t = f s := by
  obtain hbusy | ⟨hb, h⟩ := unlessBusy_next h
  · exact .inl hbusy
  · cases h
    exact .inr ⟨hb, rfl⟩

/-- Everything CLEAR can do (R181, R184). -/
theorem execClear_next {s t : State} (h : execClear s = .next t) :
    busy s = true ∧ t = setCmdErr s ∨ busy s = false ∧ t = { clearScan s with fsm := .idle } :=
  unlessBusy_update_next h

/-- Everything CSUM_SEED can do (R144, R181). -/
theorem execCsumSeed_next {s t : State} (h : execCsumSeed s = .next t) :
    busy s = true ∧ t = setCmdErr s ∨ busy s = false ∧ t = { s with acc := Config.seed } :=
  unlessBusy_update_next h

/-- Everything CSUM_WORD can do (R145, R181). -/
theorem execCsumWord_next {s t : State} (h : execCsumWord s = .next t) :
    busy s = true ∧ t = setCmdErr s ∨ busy s = false ∧ t = addAcc s.csumData s :=
  unlessBusy_update_next h

theorem execEmit_of_limit {s : State} (hby : s.latBy ≠ 0)
    (hlim : s.latTo ≠ 0 ∧ s.recCount.toNat + 1 = s.latTo) :
    execEmit s = .next (stopDone (appendSelected (s.recCount.toNat + 1)
      { s with recCount := BitVec.ofNat 32 (s.recCount.toNat + 1) })) :=
  (if_neg hby).trans (if_pos hlim)

theorem execEmit_of_more {s : State} (hby : s.latBy ≠ 0)
    (hmore : ¬(s.latTo ≠ 0 ∧ s.recCount.toNat + 1 = s.latTo)) :
    execEmit s = .next { appendSelected (s.recCount.toNat + 1)
      { s with recCount := BitVec.ofNat 32 (s.recCount.toNat + 1) } with
        hdrIdx := 0, fsm := .decHdr } :=
  (if_neg hby).trans (if_neg hmore)

/-! ### Turns -/

/-- Everything an Engine step can do (R92, R180). -/
theorem engineTurn_next {s t : State} (h : engineTurn s = .next t) :
    t = s ∨ s.fsm = .seeking ∧ execSeekStep s = .next t ∨
      s.fsm = .decHdr ∧ execHdrStep s = .next t ∨ s.fsm = .readPay ∧ execPayStep s = .next t ∨
      s.fsm = .validating ∧ execValidate s = .next t ∨
      s.fsm = .emitting ∧ execEmit s = .next t := by
  rw [engineTurn_eq] at h
  cases hf : s.fsm <;> simp only [hf] at h
  case idle | stopped => cases h; exact .inl rfl
  all_goals simp [h]

/-- A step takes the first pending turn and leaves the others (log 2). -/
theorem step_of_turn {s : State} {u : Turn} {rest : List Turn} (h : s.turns = u :: rest) :
    step s = takeTurn u { s with turns := rest } := by
  simp only [step, nextTurn, dropTurn, h, List.tail_cons]

/-- A host read that answers records a value and does nothing else (R37). -/
theorem hostRead_next {s t : State} {p : Place} {n : Nat} (hx : hostRead p n s = .next t) :
    ∃ v, t = recordRead v s := by
  unfold hostRead at hx
  split at hx <;> cases hx
  exact ⟨_, rfl⟩

/-- A source move that answers came with BUSY = 0 (R61). -/
theorem setSource_next {s t : State} {src : Source} (hx : setSource src s = .next t) :
    busy s = false ∧ t = { s with src := src } := by
  unfold setSource at hx
  cases hb : busy s <;> simp_all

/-- A register is found at its own offset alone (R35). -/
theorem regOffset_of_regAt {o : Nat} {r : Reg} (h : regAt o = some r) : regOffset r = o := by
  simpa using List.find?_some h

end Sys2Proof.Machine
end

section
/-! Proofs for 10_state.md: every step keeps the invariant. `Inv` is taken apart into what it says
of any state (`Indexed`), of a running scan (`Running`) and of each scan state, so that each outcome
of a step shows only what it changed. -/

namespace Sys2Proof.Machine

/-! ### What the invariant does not speak of -/

/-- The invariant does not speak of what a scan view hides. -/
theorem inv_scanView (s : State) : Inv (scanView s) ↔ Inv s :=
  ⟨fun h => { h with }, fun h => { h with }⟩

theorem Inv.of_scanView_eq {s t : State} (h : Inv s) (e : scanView t = scanView s) : Inv t :=
  (inv_scanView t).mp (e ▸ (inv_scanView s).mpr h)

/-- The invariant does not speak of ACC. -/
theorem Inv.with_acc {s : State} (h : Inv s) (a : Half) : Inv { s with acc := a } := { h with }

theorem scanView_storeReg (r : Reg) (v : Word) (s : State) :
    scanView (storeReg r v s) = scanView s := by
  cases r <;> rfl

theorem scanView_pollStatus (s : State) : scanView (pollStatus s) = scanView s := by
  unfold pollStatus
  cases busy s <;> rfl

/-! ### The parts of the invariant -/

/-- What the invariant says in every scan state, for an index of the frames before position `p`. -/
structure Indexed (p : Nat) (s : State) : Prop where
  positions : s.cursor < Config.posBound ∧ s.payStart ≤ s.cursor
  hdrIdxRange : s.hdrIdx.toNat ≤ 12
  dsizeH10 : s.hdrSize = Config.size10 → s.hdrDsize.toNat < 2 ^ 16
  latched : 1 ≤ s.latFrom ∧ s.latFrom < 2 ^ 31 ∧ s.latTo < 2 ^ 31 ∧ 1 ≤ s.latBy ∧ s.latBy < 2 ^ 31
  countBound : 10 * s.recCount.toNat ≤ p
  recordsBound : s.records.length ≤ s.recCount.toNat
  recordsOrdered :
    s.records.Pairwise fun a b => a.offset + a.length.toNat + 10 ≤ b.offset
  recordsBehind : ∀ r ∈ s.records, 10 ≤ r.offset ∧ r.offset + r.length.toNat ≤ p

/-- What the invariant says of a running scan in each of its scan states. -/
structure Running (s : State) : Prop where
  source : ∃ bs, s.src = some bs ∧ bs.length < Config.posBound ∧ s.cursor ≤ bs.length
  sourceOpen : s.srcOpen = true
  noOutcome : s.resultValid = false ∧ s.fatalCode = 0
  notTruncated : s.trunc = false
  belowLimit : s.latTo ≠ 0 → s.recCount.toNat < s.latTo

/-- The header bytes checked so far passed (`Inv.inHeader`). -/
def HeaderSoFar (s : State) : Prop :=
  s.hdrIdx.toNat ≤ s.cursor ∧
    (s.hdrIdx = 0 ∨
      s.hdrSync = Config.sync ∧
        (s.hdrIdx = 1 ∧ s.hdrDsize = 0 ∨
          knownSize s = true ∧ 2 ≤ s.hdrIdx.toNat ∧ s.hdrIdx.toNat < s.hdrSize.toNat))

/-- After a header the counters agree with its registers (`Inv.inPayload`). -/
def PayloadCounters (s : State) : Prop :=
  s.hdrSync = Config.sync ∧ knownSize s = true ∧
    s.hdrIdx.toNat = s.hdrSize.toNat ∧ s.hdrSize.toNat ≤ s.payStart ∧
    s.cursor = s.payStart + s.payIdx.toNat ∧ s.payIdx.toNat ≤ s.hdrDsize.toNat

theorem Inv.indexed {s : State} (h : Inv s) : Indexed (frameStart s) s := { h with }

theorem Indexed.mono {p q : Nat} {s : State} (h : Indexed p s) (hpq : p ≤ q) : Indexed q s :=
  { h with
    countBound := h.countBound.trans hpq
    recordsBehind := fun r hr => ⟨(h.recordsBehind r hr).1, (h.recordsBehind r hr).2.trans hpq⟩ }

theorem Inv.running {s : State} (h : Inv s) (hb : busy s = true) : Running s where
  source := by
    obtain ⟨hsome, hlen, hcur⟩ := h.source hb
    obtain ⟨bs, hs⟩ := Option.isSome_iff_exists.mp hsome
    simp only [sourceLength, hs] at hlen hcur
    exact ⟨bs, hs, hlen, hcur⟩
  sourceOpen := h.sourceOpen.trans hb
  noOutcome := h.noOutcome ((busy_iff s).mp hb).2
  notTruncated := by
    cases ht : s.trunc with
    | false => rfl
    | true => exact absurd (h.truncStops ht) ((busy_iff s).mp hb).2
  belowLimit := h.belowLimit hb

/-- A running scan's source is within the bound, and CURSOR within the source (R23, R63). -/
theorem Running.cursor_le {s : State} (hr : Running s) {bs : List Byte} (hs : s.src = some bs) :
    bs.length < Config.posBound ∧ s.cursor ≤ bs.length := by
  obtain ⟨bs', hs', hbounds⟩ := hr.source
  exact Option.some.inj (hs'.symm.trans hs) ▸ hbounds

/-- The invariant of a busy state from its parts. -/
theorem inv_of_running {s : State} (hb : busy s = true) (hr : Running s)
    (hi : Indexed (frameStart s) s)
    (hseek : s.fsm = .seeking → s.recCount = 0 ∧ s.records = [] ∧ s.hdrIdx = 0 ∧ s.csumErr = false)
    (hhdr : s.fsm = .decHdr → HeaderSoFar s)
    (hpay : payloadPhase s = true → PayloadCounters s)
    (hdone : s.fsm = .validating ∨ s.fsm = .emitting → s.payIdx = s.hdrDsize) : Inv s :=
  have hnot := (busy_iff s).mp hb
  { hi with
    source := fun _ => by
      obtain ⟨bs, hs, hlen, hcur⟩ := hr.source
      simpa [sourceLength, hs] using ⟨hlen, hcur⟩
    sourceOpen := hr.sourceOpen.trans hb.symm
    noOutcome := fun _ => hr.noOutcome
    oneOutcome := fun hf => absurd hf hnot.2
    fatalRange := by simp [hr.noOutcome.2]
    fatalEmpty := fun hf => absurd hf hnot.2
    idleClear := fun hf => absurd hf hnot.1
    seekingClear := hseek
    truncStops := fun ht => absurd ht (by simp [hr.notTruncated])
    inHeader := hhdr
    inPayload := hpay
    payloadDone := hdone
    belowLimit := fun _ => hr.belowLimit }

/-- SEEKING: nothing has been found yet. -/
theorem inv_of_seeking {s : State} (hf : s.fsm = .seeking) (hr : Running s)
    (hi : Indexed s.cursor s) (hcount : s.recCount = 0) (hrecs : s.records = [])
    (hidx : s.hdrIdx = 0) (hcsum : s.csumErr = false) : Inv s :=
  inv_of_running (by simp [busy_iff, hf]) hr (by simpa [frameStart, hf] using hi)
    (fun _ => ⟨hcount, hrecs, hidx, hcsum⟩) (by simp [hf]) (by simp [payloadPhase, hf])
    (by simp [hf])

/-- DEC_HDR: the frames before the current header are indexed. -/
theorem inv_of_decHdr {s : State} (hf : s.fsm = .decHdr) (hr : Running s)
    (hi : Indexed (s.cursor - s.hdrIdx.toNat) s) (hh : HeaderSoFar s) : Inv s :=
  inv_of_running (by simp [busy_iff, hf]) hr (by simpa [frameStart, hf] using hi)
    (by simp [hf]) (fun _ => hh) (by simp [payloadPhase, hf]) (by simp [hf])

theorem frameStart_of_payloadPhase {s : State} (hf : payloadPhase s = true) :
    frameStart s = s.payStart - s.hdrSize.toNat := by
  obtain e | e | e := (payloadPhase_iff s).mp hf <;> simp [frameStart, e]

/-- READ_PAY, VALIDATING and EMITTING: the frames before the current one are indexed. -/
theorem inv_of_payloadPhase {s : State} (hf : payloadPhase s = true) (hr : Running s)
    (hi : Indexed (s.payStart - s.hdrSize.toNat) s) (hc : PayloadCounters s)
    (hdone : s.fsm = .validating ∨ s.fsm = .emitting → s.payIdx = s.hdrDsize) : Inv s :=
  have hphase := (payloadPhase_iff s).mp hf
  inv_of_running (busy_of_payloadPhase hf) hr (frameStart_of_payloadPhase hf ▸ hi)
    (fun h => by simp [h] at hphase) (fun h => by simp [h] at hphase) (fun _ => hc) hdone

/-! ### Stops -/

/-- STOPPED: every frame before CURSOR is indexed and one outcome stands (R31). -/
theorem inv_of_stopped {s : State} (hf : s.fsm = .stopped) (hi : Indexed s.cursor s)
    (hopen : s.srcOpen = false) (hone : s.resultValid = true ↔ s.fatalCode = 0)
    (hrange : s.fatalCode.toNat ≤ 6)
    (hempty : s.resultValid = false → s.records = [] ∧ s.csumErr = false ∧ s.trunc = false) :
    Inv s :=
  have hidle : busy s = false := by simp [busy, hf, fsmCode]
  have hstart : frameStart s = s.cursor := by simp [frameStart, hf]
  { hi with
    source := by simp [hidle]
    sourceOpen := hopen.trans hidle.symm
    noOutcome := fun h => absurd hf h
    oneOutcome := fun _ => hone
    fatalRange := hrange
    fatalEmpty := fun _ => hempty
    idleClear := by simp [hf]
    seekingClear := by simp [hf]
    truncStops := fun _ => hf
    inHeader := by simp [hf]
    inPayload := by simp [payloadPhase, hf]
    payloadDone := by simp [hf]
    belowLimit := by simp [hidle]
    countBound := hstart ▸ hi.countBound
    recordsBehind := hstart ▸ hi.recordsBehind }

/-- `StopFatal` keeps the invariant: it empties the index (R202). -/
theorem Indexed.inv_stopFatal {s : State} (hi : Indexed s.cursor s) (e : FatalError) :
    Inv (stopFatal e s) :=
  inv_of_stopped rfl
    { hi with
      recordsBound := Nat.zero_le _
      recordsOrdered := .nil
      recordsBehind := by simp }
    rfl (by simpa using (fatalNumber_range e).1) (fatalNumber_range e).2 (fun _ => ⟨rfl, rfl, rfl⟩)

/-- `StopDone` keeps the invariant: it keeps the index (R203). -/
theorem Indexed.inv_stopDone {s : State} (hi : Indexed s.cursor s) : Inv (stopDone s) :=
  inv_of_stopped rfl { hi with } rfl (by simp) (by simp) (by simp)

/-! ### Reading a byte -/

theorem Running.seekForward {s : State} (hr : Running s) {bs : List Byte} (hs : s.src = some bs)
    (hlt : s.cursor < bs.length) : Running (seekForward s) :=
  { hr with source := ⟨bs, hs, (hr.cursor_le hs).1, hlt⟩ }

theorem Indexed.seekForward {p : Nat} {s : State} (hi : Indexed p s) (hr : Running s)
    {bs : List Byte} (hs : s.src = some bs) (hlt : s.cursor < bs.length) :
    Indexed p (seekForward s) :=
  { hi with
    positions := ⟨lt_of_le_of_lt hlt (hr.cursor_le hs).1, hi.positions.2.trans (Nat.le_succ _)⟩ }

/-! ### Header lanes -/

theorem Running.writeLane {s : State} (hr : Running s) (l : HeaderLane) (b : Byte) :
    Running (writeLane l b s) := by
  cases l <;> exact { hr with }

theorem Indexed.writeLane {p k : Nat} {s : State} {l : HeaderLane} (hi : Indexed p s) (b : Byte)
    (hl : headerLane s.hdrSize k = some l) : Indexed p (writeLane l b s) := by
  cases l with
  | dsize j =>
    refine { hi with dsizeH10 := fun h10 => ?_ }
    replace h10 : s.hdrSize = Config.size10 := h10
    rw [headerLane, if_pos h10] at hl
    exact setByte_lt_of_low_lane b (hi.dsizeH10 h10) (laneH10_dsize hl)
  | id | family | dcsum | hcsum => exact { hi with }

/-! ### Micro-operations -/

theorem execSeekStep_keeps_inv {s t : State} (h : Inv s) (hf : s.fsm = .seeking)
    (hx : execSeekStep s = .next t) : Inv t := by
  have hr : Running s := h.running (by simp [busy_iff, hf])
  have hi : Indexed s.cursor s := by simpa [frameStart, hf] using h.indexed
  obtain ⟨hcount, hrecs, hidx, hcsum⟩ := h.seekingClear hf
  obtain ⟨bs, hs, ⟨-, rfl⟩ | ⟨b, -, hlt, ⟨-, rfl⟩ | ⟨-, rfl⟩⟩⟩ := execSeekStep_next hx
  · exact hi.inv_stopFatal _
  · exact inv_of_decHdr rfl { hr with } { hi with hdrIdxRange := Nat.zero_le _ }
      ⟨Nat.zero_le _, .inl rfl⟩
  · exact inv_of_seeking hf (hr.seekForward hs hlt)
      ((hi.seekForward hr hs hlt).mono (Nat.le_succ _)) hcount hrecs hidx hcsum

/-- A header has at most 12 bytes (R26, R122). -/
theorem HeaderSoFar.hdrIdx_lt {s : State} (hh : HeaderSoFar s) : s.hdrIdx.toNat < 12 := by
  obtain ⟨-, h0 | ⟨-, ⟨h1, -⟩ | ⟨hk, -, hlt⟩⟩⟩ := hh
  · simp [h0]
  · simp [h1]
  · exact hlt.trans_le (knownSize_range hk).2

/-- A header field's byte: the header goes on, or the payload begins (R123, R124). `u` has CURSOR
and HDR_IDX already advanced past the byte. -/
theorem inv_writeLane {u : State} {l : HeaderLane} {k : Nat} (b : Byte) (hf : u.fsm = .decHdr)
    (hr : Running u) (hi : Indexed (u.cursor - u.hdrIdx.toNat) u)
    (hl : headerLane u.hdrSize k = some l) (hidx : u.hdrIdx.toNat = k + 1)
    (hcur : u.hdrIdx.toNat ≤ u.cursor) (hk : 2 ≤ k) (hlt : k < u.hdrSize.toNat)
    (hsync : u.hdrSync = Config.sync) (hsize : knownSize u = true) :
    (k + 1 = u.hdrSize.toNat → Inv (completeHeader (writeLane l b u))) ∧
      (k + 1 ≠ u.hdrSize.toNat → Inv (writeLane l b u)) := by
  have hrw := hr.writeLane l b
  have hiw := hi.writeLane b hl
  constructor
  · intro hlast
    refine inv_of_payloadPhase rfl { hrw with }
      { hiw with
        positions := ⟨hiw.positions.1, le_rfl⟩
        countBound := ?_
        recordsBehind := ?_ } ?_ (by simp)
    · simpa [hidx, hlast] using hiw.countBound
    · simpa [hidx, hlast] using hiw.recordsBehind
    · simp only [PayloadCounters, knownSize, completeHeader_hdrSync, completeHeader_hdrSize,
        completeHeader_hdrIdx, completeHeader_payStart, completeHeader_cursor,
        completeHeader_payIdx, completeHeader_hdrDsize, writeLane_hdrSync, writeLane_hdrSize,
        writeLane_hdrIdx, writeLane_cursor]
      exact ⟨hsync, hsize, by omega, by omega, rfl, Nat.zero_le _⟩
  · intro hmore
    refine inv_of_decHdr (by simpa using hf) hrw (by simpa using hiw) ?_
    simp only [HeaderSoFar, knownSize, writeLane_hdrIdx, writeLane_cursor, writeLane_hdrSync,
      writeLane_hdrSize]
    exact ⟨hcur, .inr ⟨hsync, .inr ⟨hsize, by omega, by omega⟩⟩⟩

/-- Before byte 1 the sync byte has been checked and no data size read (R121). -/
theorem HeaderSoFar.of_one {s : State} (hh : HeaderSoFar s) (h1 : s.hdrIdx = 1) :
    s.hdrSync = Config.sync ∧ s.hdrDsize = 0 := by
  obtain ⟨-, h0 | ⟨hsync, ⟨-, hdsize⟩ | ⟨-, h2, -⟩⟩⟩ := hh
  · simp [h1] at h0
  · exact ⟨hsync, hdsize⟩
  · simp [h1] at h2

/-- From byte 2 on the header size has been checked and not reached (R122, R124). -/
theorem HeaderSoFar.of_two_le {s : State} (hh : HeaderSoFar s) (h2 : 2 ≤ s.hdrIdx.toNat) :
    s.hdrSync = Config.sync ∧ knownSize s = true ∧ s.hdrIdx.toNat < s.hdrSize.toNat := by
  obtain ⟨-, h0 | ⟨hsync, ⟨h1, -⟩ | ⟨hsize, -, hlt⟩⟩⟩ := hh
  · simp [h0] at h2
  · simp [h1] at h2
  · exact ⟨hsync, hsize, hlt⟩

/-- Reading a header byte: CURSOR and HDR_IDX move on together, so the frame's start stays. -/
theorem headerByte_advance {s u : State} {bs : List Byte} (hr : Running s)
    (hi : Indexed (s.cursor - s.hdrIdx.toNat) s) (hh : HeaderSoFar s) (hs : s.src = some bs)
    (hlt : s.cursor < bs.length)
    (hu : u = { s with cursor := s.cursor + 1, hdrIdx := s.hdrIdx + 1 }) :
    Running u ∧ Indexed (u.cursor - u.hdrIdx.toNat) u ∧
      u.hdrIdx.toNat = s.hdrIdx.toNat + 1 ∧ u.hdrIdx.toNat ≤ u.cursor := by
  subst hu
  have hidx := toNat_hdrIdx_succ hh.hdrIdx_lt
  have hstart : s.cursor + 1 - (s.hdrIdx + 1).toNat = s.cursor - s.hdrIdx.toNat := by omega
  exact ⟨{ hr.seekForward hs hlt with },
    hstart ▸ { hi.seekForward hr hs hlt with hdrIdxRange := hidx.trans_le hh.hdrIdx_lt },
    hidx, hidx.trans_le (Nat.succ_le_succ hh.1)⟩

theorem execHdrStep_keeps_inv {s t : State} (h : Inv s) (hf : s.fsm = .decHdr)
    (hx : execHdrStep s = .next t) : Inv t := by
  have hr : Running s := h.running (by simp [busy_iff, hf])
  have hi : Indexed (s.cursor - s.hdrIdx.toNat) s := by simpa [frameStart, hf] using h.indexed
  have hh : HeaderSoFar s := h.inHeader hf
  obtain ⟨bs, hs, ⟨-, ⟨-, rfl⟩ | ⟨-, rfl⟩⟩ | ⟨b, -, hlt, u, hu, hbyte⟩⟩ := execHdrStep_next hx
  · exact (hi.mono (Nat.sub_le _ _)).inv_stopDone
  · exact (hi.mono (Nat.sub_le _ _)).inv_stopFatal _
  obtain ⟨hru, hiu, hidx, hcu⟩ := headerByte_advance hr hi hh hs hlt hu
  have hfu : u.fsm = .decHdr := by rw [hu]; exact hf
  have hlatch : Indexed (u.cursor - u.hdrIdx.toNat) (latchHeader ⟨b, 0, 0, 0, 0, 0, 0⟩ u) :=
    { hiu with dsizeH10 := by simp }
  obtain ⟨-, -, rfl⟩ | ⟨h0, hb, rfl⟩ | ⟨h1, hb, rfl⟩ | ⟨h1, hb, rfl⟩ | ⟨h2, l, hl, hlane⟩ := hbyte
  · exact (hlatch.mono (Nat.sub_le _ _)).inv_stopFatal _
  · exact inv_of_decHdr hfu { hru with } hlatch
      ⟨hcu, .inr ⟨hb, .inl ⟨by simp [hu, h0], rfl⟩⟩⟩
  · have hi1 : Indexed u.cursor { u with hdrSize := b } :=
      { hiu.mono (Nat.sub_le _ _) with dsizeH10 := fun h10 => absurd h10 hb.1 }
    exact hi1.inv_stopFatal _
  · obtain ⟨hsync, hdsize⟩ := hh.of_one h1
    have hsize : knownSize { u with hdrSize := b } = true := (knownSize_iff _).mpr hb
    have hidx2 : u.hdrIdx.toNat = 2 := by simp [hu, h1]
    have hmore : u.hdrIdx.toNat < b.toNat :=
      lt_of_lt_of_le (hidx2.trans_lt (by decide)) (knownSize_range hsize).1
    exact inv_of_decHdr hfu { hru with } { hiu with dsizeH10 := fun _ => by simp [hu, hdsize] }
      ⟨hcu, .inr ⟨by simp [hu, hsync], .inr ⟨hsize, hidx2.ge, hmore⟩⟩⟩
  · obtain ⟨hsync, hsize, hmore⟩ := hh.of_two_le h2
    have hsyncu : u.hdrSync = s.hdrSync := by rw [hu]
    have hsizeu : u.hdrSize = s.hdrSize := by rw [hu]
    rw [← hsizeu] at hl hmore hlane
    have hknown : knownSize u = true := by rwa [knownSize_iff, hsizeu, ← knownSize_iff]
    obtain ⟨hcomplete, hgoesOn⟩ :=
      inv_writeLane b hfu hru hiu hl hidx hcu h2 hmore (hsyncu.trans hsync) hknown
    obtain ⟨hlast, rfl⟩ | ⟨hrest, rfl⟩ := hlane
    · exact hcomplete hlast
    · exact hgoesOn hrest

/-- The invariant in READ_PAY, VALIDATING and EMITTING, taken apart. -/
theorem Inv.payload {s : State} (h : Inv s) (hf : payloadPhase s = true) :
    Running s ∧ Indexed (s.payStart - s.hdrSize.toNat) s ∧ PayloadCounters s :=
  ⟨h.running (busy_of_payloadPhase hf), frameStart_of_payloadPhase hf ▸ h.indexed,
    h.inPayload hf⟩

theorem execPayStep_keeps_inv {s t : State} (h : Inv s) (hf : s.fsm = .readPay)
    (hx : execPayStep s = .next t) : Inv t := by
  have hphase : payloadPhase s = true := by simp [payloadPhase, hf]
  obtain ⟨hr, hi, hc⟩ := h.payload hphase
  obtain ⟨hsync, hsize, hidx, hstart, hcur, hle⟩ := id hc
  obtain ⟨hdone, rfl⟩ | ⟨hmore, bs, hs, ⟨-, rfl⟩ | ⟨b, -, hlt, rfl⟩⟩ := execPayStep_next hx
  · exact inv_of_payloadPhase rfl { hr with } { hi with } hc (fun _ => hdone)
  · have hi' : Indexed s.cursor (setTrunc s) := { hi.mono (by omega) with }
    exact hi'.inv_stopDone
  · obtain ⟨hnext, hpay⟩ := toNat_payIdx_succ hle hmore
    refine inv_of_payloadPhase hphase { hr.seekForward hs hlt with }
      { hi.seekForward hr hs hlt with } ⟨hsync, hsize, hidx, hstart, ?_, ?_⟩ (by simp [hf])
    · calc s.cursor + 1
          = s.payStart + (s.payIdx.toNat + 1) := by omega
        _ = s.payStart + (s.payIdx + 1).toNat := by rw [hnext]
    · exact hnext.trans_le hpay

theorem execValidate_keeps_inv {s t : State} (h : Inv s) (hf : s.fsm = .validating)
    (hx : execValidate s = .next t) : Inv t := by
  have hphase : payloadPhase s = true := by simp [payloadPhase, hf]
  obtain ⟨hr, hi, hc⟩ := h.payload hphase
  have hdone := h.payloadDone (.inl hf)
  cases hx
  unfold compareChecksum
  split <;> exact inv_of_payloadPhase rfl { hr with } { hi with } hc (fun _ => hdone)

/-- EMIT's counting and appending: the current frame, whose payload ends at CURSOR, joins the index
(R160 to R163). REC_COUNT does not wrap, for every counted frame took at least 10 bytes (R28). -/
theorem indexed_appendSelected {s u : State}
    (hi : Indexed (s.payStart - s.hdrSize.toNat) s) (hc : PayloadCounters s)
    (hdone : s.payIdx = s.hdrDsize)
    (hu : u = appendSelected (s.recCount.toNat + 1)
      { s with recCount := BitVec.ofNat 32 (s.recCount.toNat + 1) }) :
    u.recCount.toNat = s.recCount.toNat + 1 ∧ Indexed u.cursor u := by
  obtain ⟨-, hsize, -, hstart, hcur, -⟩ := hc
  have h10 := (knownSize_range hsize).1
  have hcount := hi.countBound
  have hposn : s.cursor < 2 ^ 32 := hi.positions.1
  have hn : (BitVec.ofNat 32 (s.recCount.toNat + 1)).toNat = s.recCount.toNat + 1 := by
    rw [BitVec.toNat_ofNat]
    exact Nat.mod_eq_of_lt (by omega)
  have hlen := hi.recordsBound
  refine ⟨by simpa [hu] using hn, ?_⟩
  have hcounted : Indexed s.cursor
      { s with recCount := BitVec.ofNat 32 (s.recCount.toNat + 1) } :=
    { hi.mono (by omega : _ ≤ s.cursor) with
      countBound := by simp only [hn]; omega
      recordsBound := by simp only [hn]; omega }
  rw [show u.cursor = s.cursor by simp [hu], hu]
  unfold appendSelected
  split
  · refine { hcounted with
      recordsBound := by simp [hn, hlen]
      recordsOrdered := ?_
      recordsBehind := ?_ }
    · refine List.pairwise_append.mpr ⟨hi.recordsOrdered, List.pairwise_singleton .., ?_⟩
      intro a ha b hb
      obtain rfl := List.mem_singleton.mp hb
      have hbehind := hi.recordsBehind a ha
      show a.offset + a.length.toNat + 10 ≤ s.payStart
      omega
    · intro r hr
      obtain hr | hr := List.mem_append.mp hr
      · exact hcounted.recordsBehind r hr
      · obtain rfl := List.mem_singleton.mp hr
        show 10 ≤ s.payStart ∧ s.payStart + s.hdrDsize.toNat ≤ s.cursor
        rw [← hdone]
        omega
  · exact hcounted

theorem execEmit_keeps_inv {s t : State} (h : Inv s) (hf : s.fsm = .emitting)
    (hx : execEmit s = .next t) : Inv t := by
  obtain ⟨hr, hi, hc⟩ := h.payload (by simp [payloadPhase, hf])
  obtain ⟨-, u, hu, hnext⟩ := execEmit_next hx
  obtain ⟨hcount, hiu⟩ := indexed_appendSelected hi hc (h.payloadDone (.inr hf)) hu
  obtain ⟨-, -, rfl⟩ | ⟨hmore, rfl⟩ := hnext
  · exact hiu.inv_stopDone
  · refine inv_of_decHdr rfl ?_ { hiu with hdrIdxRange := Nat.zero_le _ }
      ⟨Nat.zero_le _, .inl rfl⟩
    exact
      { source := by simpa [hu] using hr.source
        sourceOpen := by simpa [hu] using hr.sourceOpen
        noOutcome := by simpa [hu] using hr.noOutcome
        notTruncated := by simpa [hu] using hr.notTruncated
        belowLimit := fun hto => by
          replace hto : s.latTo ≠ 0 := by simpa [hu] using hto
          have hbelow := hr.belowLimit hto
          have hne : s.recCount.toNat + 1 ≠ s.latTo := fun e => hmore ⟨hto, e⟩
          simp only [hcount]
          simp only [hu, appendSelected_latTo]
          omega }

/-! ### Whole headers -/

/-- The whole-header turn at a header that stands at CURSOR (log 4). -/
theorem inv_wholeHeader {s : State} {bs : List Byte} {h : Header} (hinv : Inv s)
    (hf : s.fsm = .decHdr) (h0 : s.hdrIdx = 0) (hs : s.src = some bs)
    (hlen : s.cursor + h.size.toNat ≤ bs.length) (hsync : h.sync = Config.sync)
    (hsize : h.size = Config.size10 ∧ h.dsize.toNat < 2 ^ 16 ∨ h.size = Config.size12) :
    Inv (completeHeader (latchHeader h
      { s with cursor := s.cursor + h.size.toNat, hdrIdx := BitVec.ofNat 4 h.size.toNat })) := by
  have hr : Running s := hinv.running (by simp [busy_iff, hf])
  have hi : Indexed s.cursor s := by simpa [frameStart, hf, h0] using hinv.indexed
  have hbound := (hr.cursor_le hs).1
  have hidx : (BitVec.ofNat 4 h.size.toNat).toNat = h.size.toNat := by
    obtain ⟨e, -⟩ | e := hsize <;> rw [e] <;> rfl
  have hle : h.size.toNat ≤ 12 := by
    obtain ⟨e, -⟩ | e := hsize <;> rw [e] <;> decide
  have hstart : s.cursor ≤ s.cursor + h.size.toNat - h.size.toNat := by omega
  have hi' := hi.mono hstart
  refine inv_of_payloadPhase rfl { hr with source := ⟨bs, hs, hbound, hlen⟩ }
    { hi' with
      positions := ⟨hlen.trans_lt hbound, le_rfl⟩
      hdrIdxRange := hidx.trans_le hle
      dsizeH10 := fun h10 => ?_ }
    ⟨hsync, ?_, hidx, Nat.le_add_left _ _, rfl, Nat.zero_le _⟩ nofun
  · obtain ⟨-, hd⟩ | h12 := hsize
    · exact hd
    · exact absurd (h10.symm.trans h12) (by decide)
  · obtain ⟨e, -⟩ | e := hsize <;> simp [knownSize, e]

/-! ### Commands -/

/-- With BUSY = 0 the invariant does not speak of SRC (R61). -/
theorem Inv.with_source {s : State} (h : Inv s) (hb : busy s = false) (src : Source) :
    Inv { s with src := src } :=
  { h with source := fun hb' => absurd (hb.symm.trans hb') Bool.false_ne_true }

theorem indexed_clearScan {s : State} (h : Inv s) : Indexed 0 (clearScan s) where
  positions := by simp [Config.posBound]
  hdrIdxRange := Nat.zero_le _
  dsizeH10 := by simp
  latched := h.latched
  countBound := by simp
  recordsBound := by simp
  recordsOrdered := .nil
  recordsBehind := by simp

theorem startScan_keeps_inv {s t : State} (h : Inv s) (hx : startScan s = .next t) : Inv t := by
  have hi := indexed_clearScan h
  obtain ⟨e, -, rfl⟩ | ⟨bs, hs, hlen, hfrom, hto, hby, rfl⟩ := startScan_next hx
  · exact hi.inv_stopFatal e
  · have hr : Running { clearScan s with
        latFrom := s.cfgFrom.toInt.toNat, latTo := s.cfgTo.toInt.toNat
        latBy := s.cfgBy.toInt.toNat, srcOpen := true, fsm := .seeking } :=
      { source := ⟨bs, hs, hlen, Nat.zero_le _⟩
        sourceOpen := rfl
        noOutcome := ⟨rfl, rfl⟩
        notTruncated := rfl
        belowLimit := Nat.pos_of_ne_zero }
    refine inv_of_seeking rfl hr { hi with latched := ?_ } rfl rfl rfl rfl
    exact ⟨by simp only; omega, toInt_toNat_lt _, toInt_toNat_lt _, by simp only; omega,
      toInt_toNat_lt _⟩

theorem clear_keeps_inv {s : State} (h : Inv s) (hb : busy s = false) :
    Inv { clearScan s with fsm := .idle } :=
  { indexed_clearScan h with
    source := nofun
    sourceOpen := h.sourceOpen.trans hb
    noOutcome := fun _ => ⟨rfl, rfl⟩
    oneOutcome := nofun
    fatalRange := Nat.zero_le _
    fatalEmpty := nofun
    idleClear := fun _ => ⟨rfl, rfl, rfl, rfl, rfl, rfl⟩
    seekingClear := nofun
    truncStops := nofun
    inHeader := nofun
    inPayload := nofun
    payloadDone := nofun
    belowLimit := nofun }

/-- A command keeps the invariant, busy or not (R181 to R185). -/
theorem command_keeps_inv {s t : State} {w : Word} {i : Instr} (h : Inv s)
    (hw : decodeCommand w = .ok i) (hx : exec i s = .next t) : Inv t := by
  have herr : Inv (setCmdErr s) := h.of_scanView_eq rfl
  obtain ⟨-, rfl⟩ | ⟨-, rfl⟩ | ⟨-, rfl⟩ | ⟨-, rfl⟩ | ⟨-, rfl⟩ := decodeCommand_ok hw
  · cases hx
    exact h
  · obtain ⟨-, rfl⟩ | ⟨-, hx⟩ := unlessBusy_next hx
    · exact herr
    · exact startScan_keeps_inv h hx
  · obtain ⟨-, rfl⟩ | ⟨hb, rfl⟩ := execClear_next hx
    · exact herr
    · exact clear_keeps_inv h hb
  · obtain ⟨-, rfl⟩ | ⟨-, rfl⟩ := execCsumSeed_next hx
    · exact herr
    · exact h.with_acc _
  · obtain ⟨-, rfl⟩ | ⟨-, rfl⟩ := execCsumWord_next hx
    · exact herr
    · exact h.with_acc _

/-! ### Turns -/

theorem engineTurn_keeps_inv {s t : State} (h : Inv s) (hx : engineTurn s = .next t) : Inv t := by
  obtain rfl | ⟨hf, hx⟩ | ⟨hf, hx⟩ | ⟨hf, hx⟩ | ⟨hf, hx⟩ | ⟨hf, hx⟩ := engineTurn_next hx
  · exact h
  · exact execSeekStep_keeps_inv h hf hx
  · exact execHdrStep_keeps_inv h hf hx
  · exact execPayStep_keeps_inv h hf hx
  · exact execValidate_keeps_inv h hf hx
  · exact execEmit_keeps_inv h hf hx

theorem engineHeaderTurn_keeps_inv {s t : State} (h : Inv s) (hx : engineHeaderTurn s = .next t) :
    Inv t := by
  obtain ⟨bs, i, rest, hf, h0, hs, hd, hx⟩ | hx := engineHeaderTurn_next hx
  · obtain ⟨hdr, hsync, hlen, hcases⟩ := decodeHeader_ok hd
    have hcur := ((h.running (by simp [busy_iff, hf])).cursor_le hs).2
    rw [List.length_drop] at hlen
    obtain ⟨rfl, h10, hdsize⟩ | ⟨rfl, h12⟩ := hcases
    · have hinv := inv_wholeHeader h hf h0 hs (by omega) hsync (.inl ⟨h10, hdsize⟩)
      rw [h10] at hinv
      cases hx
      exact hinv
    · have hinv := inv_wholeHeader h hf h0 hs (by omega) hsync (.inr h12)
      rw [h12] at hinv
      cases hx
      exact hinv
  · exact engineTurn_keeps_inv h hx

theorem reset_inv : Inv State.reset := by constructor <;> decide

theorem takeTurn_keeps_inv {s t : State} (h : Inv s) (u : Turn) (hx : takeTurn u s = .next t) :
    Inv t := by
  cases u with
  | engine => exact engineTurn_keeps_inv h hx
  | engineHeader => exact engineHeaderTurn_keeps_inv h hx
  | read p n =>
    obtain ⟨v, rfl⟩ := hostRead_next hx
    exact h.of_scanView_eq rfl
  | write p n v =>
    obtain ⟨i, hw, hx⟩ | rfl | ⟨r, rfl⟩ | rfl := hostWrite_next hx
    · exact command_keeps_inv h hw hx
    · exact h.of_scanView_eq rfl
    · exact h.of_scanView_eq (scanView_storeReg r v s)
    · exact h
  | attach bs =>
    obtain ⟨hb, rfl⟩ := setSource_next hx
    exact h.with_source hb _
  | detach =>
    obtain ⟨hb, rfl⟩ := setSource_next hx
    exact h.with_source hb _
  | wait =>
    cases hx
    exact h.of_scanView_eq (scanView_pollStatus s)
  | reset =>
    cases hx
    exact (reset_inv.with_source rfl s.src).of_scanView_eq rfl

/-- Settles O33: each turn keeps the invariant. -/
theorem stepKeepsInvariant : Obligations.StepKeepsInvariant := by
  intro s t h hx
  unfold step nextTurn at hx
  split at hx
  · exact engineTurn_keeps_inv h hx
  · exact takeTurn_keeps_inv (h.of_scanView_eq (t := dropTurn s) rfl) _ hx

end Sys2Proof.Machine
end

section
/-! Proofs for 10_state.md: what an instruction and an Engine step leave as it was. -/

namespace Sys2Proof.Machine

/-! ### The host's side and the latched bounds -/

/-- What no instruction writes: the byte source, the configuration and operand registers, and the
model's own turns and reads. -/
def hostSide (s : State) :=
  (s.src, s.cfgFrom, s.cfgTo, s.cfgBy, s.csumData, s.recSel, s.turns, s.reads)

/-- LAT_FROM, LAT_TO and LAT_BY (R33). -/
def latchedBounds (s : State) := (s.latFrom, s.latTo, s.latBy)

/-- What no micro-operation writes. -/
def engineFrame (s : State) := (hostSide s, latchedBounds s, s.cmdErr)

theorem engineFrame_eq_iff {s t : State} :
    engineFrame t = engineFrame s ↔
      hostSide t = hostSide s ∧ latchedBounds t = latchedBounds s ∧ t.cmdErr = s.cmdErr := by
  simp [engineFrame]

theorem engineFrame_writeLane (l : HeaderLane) (b : Byte) (s : State) :
    engineFrame (writeLane l b s) = engineFrame s := by
  cases l <;> rfl

theorem engineFrame_compareChecksum (s : State) :
    engineFrame (compareChecksum s) = engineFrame s := by
  unfold compareChecksum
  split <;> rfl

theorem engineFrame_appendSelected (n : Nat) (s : State) :
    engineFrame (appendSelected n s) = engineFrame s := by
  unfold appendSelected
  split <;> rfl

theorem execSeekStep_frame {s t : State} (h : execSeekStep s = .next t) :
    engineFrame t = engineFrame s := by
  obtain ⟨bs, -, ⟨-, rfl⟩ | ⟨b, -, -, ⟨-, rfl⟩ | ⟨-, rfl⟩⟩⟩ := execSeekStep_next h <;> rfl

theorem execHdrStep_frame {s t : State} (h : execHdrStep s = .next t) :
    engineFrame t = engineFrame s := by
  obtain ⟨bs, -, ⟨-, ⟨-, rfl⟩ | ⟨-, rfl⟩⟩ | ⟨b, -, -, u, rfl, hbyte⟩⟩ := execHdrStep_next h
  · rfl
  · rfl
  obtain ⟨-, -, rfl⟩ | ⟨-, -, rfl⟩ | ⟨-, -, rfl⟩ | ⟨-, -, rfl⟩ | ⟨-, l, -, hlane⟩ := hbyte
  · rfl
  · rfl
  · rfl
  · rfl
  · obtain ⟨-, rfl⟩ | ⟨-, rfl⟩ := hlane <;> exact engineFrame_writeLane l b _

theorem execPayStep_frame {s t : State} (h : execPayStep s = .next t) :
    engineFrame t = engineFrame s := by
  obtain ⟨-, rfl⟩ | ⟨-, bs, -, ⟨-, rfl⟩ | ⟨b, -, -, rfl⟩⟩ := execPayStep_next h <;> rfl

theorem execValidate_frame {s t : State} (h : execValidate s = .next t) :
    engineFrame t = engineFrame s := by
  cases h
  exact engineFrame_compareChecksum s

theorem execEmit_frame {s t : State} (h : execEmit s = .next t) :
    engineFrame t = engineFrame s := by
  obtain ⟨-, u, rfl, ⟨-, -, rfl⟩ | ⟨-, rfl⟩⟩ := execEmit_next h <;>
    exact engineFrame_appendSelected _ _

theorem engineTurn_frame {s t : State} (h : engineTurn s = .next t) :
    engineFrame t = engineFrame s := by
  obtain rfl | ⟨-, h⟩ | ⟨-, h⟩ | ⟨-, h⟩ | ⟨-, h⟩ | ⟨-, h⟩ := engineTurn_next h
  · rfl
  · exact execSeekStep_frame h
  · exact execHdrStep_frame h
  · exact execPayStep_frame h
  · exact execValidate_frame h
  · exact execEmit_frame h

/-- No instruction writes the host's side, and START alone the latched bounds. -/
theorem exec_frame {i : Instr} {s t : State} (h : exec i s = .next t) :
    hostSide t = hostSide s ∧ (i ≠ .start → latchedBounds t = latchedBounds s) := by
  have of_engine (e : engineFrame t = engineFrame s) :
      hostSide t = hostSide s ∧ (i ≠ .start → latchedBounds t = latchedBounds s) :=
    have ⟨hside, hbounds, _⟩ := engineFrame_eq_iff.mp e
    ⟨hside, fun _ => hbounds⟩
  cases i with
  | hdr10 hd | hdr12 hd | nop => cases h; exact ⟨rfl, fun _ => rfl⟩
  | start =>
    obtain ⟨-, rfl⟩ | ⟨-, h⟩ := unlessBusy_next h
    · exact ⟨rfl, fun _ => rfl⟩
    · obtain ⟨e, -, rfl⟩ | ⟨bs, -, -, -, -, -, rfl⟩ := startScan_next h
      · exact ⟨rfl, fun _ => rfl⟩
      · exact ⟨rfl, fun hne => absurd rfl hne⟩
  | clear => obtain ⟨-, rfl⟩ | ⟨-, rfl⟩ := execClear_next h <;> exact ⟨rfl, fun _ => rfl⟩
  | csumSeed => obtain ⟨-, rfl⟩ | ⟨-, rfl⟩ := execCsumSeed_next h <;> exact ⟨rfl, fun _ => rfl⟩
  | csumWord => obtain ⟨-, rfl⟩ | ⟨-, rfl⟩ := execCsumWord_next h <;> exact ⟨rfl, fun _ => rfl⟩
  | seekStep => exact of_engine (execSeekStep_frame h)
  | hdrStep => exact of_engine (execHdrStep_frame h)
  | payStep => exact of_engine (execPayStep_frame h)
  | validate => exact of_engine (execValidate_frame h)
  | emit => exact of_engine (execEmit_frame h)

/-! ### The accumulator -/

theorem startScan_acc {s t : State} (h : startScan s = .next t) : t.acc = s.acc := by
  obtain ⟨e, -, rfl⟩ | ⟨bs, -, -, -, -, -, rfl⟩ := startScan_next h <;> rfl

/-- ACC is written by header completion, PAY_STEP, CSUM_SEED and CSUM_WORD alone (R24). -/
theorem exec_acc {i : Instr} {s t : State} (h : exec i s = .next t)
    (hi : i ∈ [Instr.nop, .start, .clear, .seekStep, .validate, .emit]) : t.acc = s.acc := by
  simp only [List.mem_cons, List.not_mem_nil, or_false] at hi
  obtain rfl | rfl | rfl | rfl | rfl | rfl := hi
  · cases h
    rfl
  · obtain ⟨-, rfl⟩ | ⟨-, h⟩ := unlessBusy_next h
    · rfl
    · exact startScan_acc h
  · obtain ⟨-, rfl⟩ | ⟨-, rfl⟩ := execClear_next h <;> rfl
  · obtain ⟨bs, -, ⟨-, rfl⟩ | ⟨b, -, -, ⟨-, rfl⟩ | ⟨-, rfl⟩⟩⟩ := execSeekStep_next h <;> rfl
  · cases h
    exact compareChecksum_acc s
  · obtain ⟨-, u, rfl, ⟨-, -, rfl⟩ | ⟨-, rfl⟩⟩ := execEmit_next h <;> exact appendSelected_acc _ _

/-- Settles O37, from the frame of each instruction. -/
theorem instructionsLeaveHostState : Obligations.InstructionsLeaveHostState := by
  intro i s t h
  obtain ⟨hside, hbounds⟩ := exec_frame h
  simp only [hostSide, Prod.mk.injEq] at hside
  simp only [latchedBounds, Prod.mk.injEq] at hbounds
  obtain ⟨hsrc, hfrom, hto, hby, hdata, hsel, hturns, hreads⟩ := hside
  exact ⟨hsrc, fun a => by simp only [sourceByte, hsrc], hfrom, hto, hby, hdata, hsel, hturns,
    hreads, exec_acc h, hbounds⟩

/-! ### RECORDS -/

/-- Settles O38, by the instruction. -/
theorem recordsAreOnlyAppendedOrEmptied : Obligations.RecordsAreOnlyAppendedOrEmptied := by
  intro i s t h
  have of_fatal {e : FatalError} {u : State} (ht : t = stopFatal e u) :
      t.records = [] ∧ (i = .start ∨ i = .clear ∨ t.fsm = .stopped ∧ t.fatalCode ≠ 0) := by
    subst ht
    exact ⟨rfl, .inr (.inr ⟨rfl, (fatalNumber_range e).1⟩)⟩
  cases i with
  | hdr10 hd | hdr12 hd | nop => cases h; exact .inl rfl
  | start =>
    obtain ⟨-, rfl⟩ | ⟨-, h⟩ := unlessBusy_next h
    · exact .inl rfl
    · obtain ⟨e, -, ht⟩ | ⟨bs, -, -, -, -, -, rfl⟩ := startScan_next h
      · exact .inr (.inl (of_fatal ht))
      · exact .inr (.inl ⟨rfl, .inl rfl⟩)
  | clear =>
    obtain ⟨-, rfl⟩ | ⟨-, rfl⟩ := execClear_next h
    · exact .inl rfl
    · exact .inr (.inl ⟨rfl, .inr (.inl rfl)⟩)
  | csumSeed => obtain ⟨-, rfl⟩ | ⟨-, rfl⟩ := execCsumSeed_next h <;> exact .inl rfl
  | csumWord => obtain ⟨-, rfl⟩ | ⟨-, rfl⟩ := execCsumWord_next h <;> exact .inl rfl
  | seekStep =>
    obtain ⟨bs, -, ⟨-, ht⟩ | ⟨b, -, -, ⟨-, rfl⟩ | ⟨-, rfl⟩⟩⟩ := execSeekStep_next h
    · exact .inr (.inl (of_fatal ht))
    · exact .inl rfl
    · exact .inl rfl
  | hdrStep =>
    obtain ⟨bs, -, ⟨-, ⟨-, rfl⟩ | ⟨-, ht⟩⟩ | ⟨b, -, -, u, rfl, hbyte⟩⟩ := execHdrStep_next h
    · exact .inl rfl
    · exact .inr (.inl (of_fatal ht))
    obtain ⟨-, -, ht⟩ | ⟨-, -, rfl⟩ | ⟨-, -, ht⟩ | ⟨-, -, rfl⟩ | ⟨-, l, -, hlane⟩ := hbyte
    · exact .inr (.inl (of_fatal ht))
    · exact .inl rfl
    · exact .inr (.inl (of_fatal ht))
    · exact .inl rfl
    · obtain ⟨-, rfl⟩ | ⟨-, rfl⟩ := hlane <;> exact .inl (writeLane_records l b _)
  | payStep =>
    obtain ⟨-, rfl⟩ | ⟨-, bs, -, ⟨-, rfl⟩ | ⟨b, -, -, rfl⟩⟩ := execPayStep_next h <;> exact .inl rfl
  | validate =>
    cases h
    exact .inl (compareChecksum_records s)
  | emit =>
    obtain ⟨-, u, hu, hstop⟩ := execEmit_next h
    have ht : t.records = u.records := by obtain ⟨-, -, rfl⟩ | ⟨-, rfl⟩ := hstop <;> rfl
    rw [ht, hu, appendSelected_records]
    split
    · exact .inr (.inr ⟨rfl, rfl⟩)
    · exact .inl rfl

/-! ### CURSOR -/

/-- Settles O39, by the micro-operation that runs. -/
theorem engineStepMovesCursorByAtMostOne : Obligations.EngineStepMovesCursorByAtMostOne := by
  intro s t bs hs h
  suffices hmove : t.cursor = s.cursor ∨ t.cursor = s.cursor + 1 ∧ s.cursor < bs.length from
    ⟨hmove, by omega⟩
  have at_source {bs' : List Byte} (hs' : s.src = some bs') : bs' = bs :=
    Option.some.inj (hs'.symm.trans hs)
  obtain rfl | ⟨-, h⟩ | ⟨-, h⟩ | ⟨-, h⟩ | ⟨-, h⟩ | ⟨-, h⟩ := engineTurn_next h
  · exact .inl rfl
  · obtain ⟨bs', hs', ⟨-, rfl⟩ | ⟨b, -, hlt, ⟨-, rfl⟩ | ⟨-, rfl⟩⟩⟩ := execSeekStep_next h
    · exact .inl rfl
    · exact .inl rfl
    · exact .inr ⟨rfl, at_source hs' ▸ hlt⟩
  · obtain ⟨bs', hs', ⟨-, ⟨-, rfl⟩ | ⟨-, rfl⟩⟩ | ⟨b, -, hlt, u, rfl, hbyte⟩⟩ := execHdrStep_next h
    · exact .inl rfl
    · exact .inl rfl
    refine .inr ⟨?_, at_source hs' ▸ hlt⟩
    obtain ⟨-, -, rfl⟩ | ⟨-, -, rfl⟩ | ⟨-, -, rfl⟩ | ⟨-, -, rfl⟩ | ⟨-, l, -, hlane⟩ := hbyte
    · rfl
    · rfl
    · rfl
    · rfl
    · obtain ⟨-, rfl⟩ | ⟨-, rfl⟩ := hlane <;> exact writeLane_cursor l b _
  · obtain ⟨-, rfl⟩ | ⟨-, bs', hs', ⟨-, rfl⟩ | ⟨b, -, hlt, rfl⟩⟩ := execPayStep_next h
    · exact .inl rfl
    · exact .inl rfl
    · exact .inr ⟨rfl, at_source hs' ▸ hlt⟩
  · cases h
    exact .inl (compareChecksum_cursor s)
  · obtain ⟨-, u, rfl, ⟨-, -, rfl⟩ | ⟨-, rfl⟩⟩ := execEmit_next h <;>
      exact .inl (appendSelected_cursor _ _)

/-! ### What a scan depends on -/

/-- An outcome with the scan view of its next state. -/
def viewNext : Result → Result
  | .next s => .next (scanView s)
  | .fault f => .fault f
  | .refused r => .refused r

theorem viewNext_eq_next {r : Result} {v : State} (h : viewNext r = .next v) :
    ∃ t, r = .next t ∧ scanView t = v := by
  cases r <;> cases h
  exact ⟨_, rfl, rfl⟩

/-! Each update that an Engine step makes commutes with the scan view. -/

theorem compareChecksum_scanView (s : State) :
    compareChecksum (scanView s) = scanView (compareChecksum s) := by
  by_cases h : s.acc = s.hdrDcsum <;> simp [compareChecksum, scanView, h]

theorem appendSelected_scanView (n : Nat) (s : State) :
    appendSelected n (scanView s) = scanView (appendSelected n s) := by
  by_cases h : selected s.latFrom s.latBy n = true <;>
    simp [appendSelected, scanView, h, currentRecord]

theorem writeLane_scanView (l : HeaderLane) (b : Byte) (s : State) :
    writeLane l b (scanView s) = scanView (writeLane l b s) := by
  cases l <;> rfl

theorem headerByte0_scanView (b : Byte) (s : State) :
    headerByte0 b (scanView s) = scanView (headerByte0 b s) := by
  unfold headerByte0
  by_cases h : b ≠ Config.sync
  · rw [if_pos h, if_pos h]
    rfl
  · rw [if_neg h, if_neg h]
    rfl

theorem headerByte1_scanView (b : Byte) (s : State) :
    headerByte1 b (scanView s) = scanView (headerByte1 b s) := by
  unfold headerByte1
  by_cases h : b ≠ Config.size10 ∧ b ≠ Config.size12
  · rw [if_pos h, if_pos h]
    rfl
  · rw [if_neg h, if_neg h]
    rfl

theorem headerField_scanView (k : Nat) (b : Byte) (s : State) :
    headerField k b (scanView s) = viewNext (headerField k b s) := by
  have hsize : (scanView s).hdrSize = s.hdrSize := rfl
  unfold headerField
  rw [hsize]
  cases headerLane s.hdrSize k with
  | none => rfl
  | some l =>
    simp only [writeLane_hdrSize, hsize]
    rw [writeLane_scanView]
    split <;> rfl

theorem headerByte_scanView (k : Nat) (b : Byte) (s : State) :
    headerByte k b (scanView s) = viewNext (headerByte k b s) := by
  unfold headerByte
  split
  · exact congrArg _ (headerByte0_scanView b s)
  · split
    · exact congrArg _ (headerByte1_scanView b s)
    · exact headerField_scanView k b s

/-- The byte that a read meets is in the scan view. -/
theorem readAtCursor_scanView (s : State) (e : Result) (f : Byte → Result) :
    readAtCursor (scanView s) (viewNext e) (fun b => viewNext (f b)) =
      viewNext (readAtCursor s e f) := by
  cases hs : s.src with
  | none =>
    rw [readAtCursor_of_no_source hs, readAtCursor_of_no_source (s := scanView s) hs]
    rfl
  | some bs =>
    cases hb : bs[s.cursor]? with
    | none =>
      have hend := List.getElem?_eq_none_iff.mp hb
      rw [readAtCursor_at_end hs hend, readAtCursor_at_end (s := scanView s) hs hend]
    | some b => rw [readAtCursor_at_byte hs hb, readAtCursor_at_byte (s := scanView s) hs hb]

/-! So does each micro-operation. -/

theorem execSeekStep_scanView (s : State) :
    execSeekStep (scanView s) = viewNext (execSeekStep s) := by
  unfold execSeekStep
  rw [← readAtCursor_scanView]
  congr 1
  funext b
  split <;> rfl

theorem execHdrStep_scanView (s : State) :
    execHdrStep (scanView s) = viewNext (execHdrStep s) := by
  unfold execHdrStep
  rw [← readAtCursor_scanView]
  congr 1
  · show (if s.hdrIdx = 0 then _ else _) = _
    split <;> rfl
  · funext b
    exact headerByte_scanView _ b { seekForward s with hdrIdx := s.hdrIdx + 1 }

theorem execPayStep_scanView (s : State) :
    execPayStep (scanView s) = viewNext (execPayStep s) := by
  by_cases hdone : s.payIdx = s.hdrDsize
  · rw [execPayStep, execPayStep, if_pos hdone]
    exact if_pos hdone
  · rw [execPayStep_of_unfinished hdone, ← readAtCursor_scanView]
    exact execPayStep_of_unfinished (s := scanView s) hdone

theorem execValidate_scanView (s : State) :
    execValidate (scanView s) = viewNext (execValidate s) := by
  unfold execValidate
  rw [compareChecksum_scanView]
  rfl

theorem execEmit_scanView (s : State) : execEmit (scanView s) = viewNext (execEmit s) := by
  have hview := appendSelected_scanView (s.recCount.toNat + 1)
    { s with recCount := BitVec.ofNat 32 (s.recCount.toNat + 1) }
  by_cases hby : s.latBy = 0
  · rw [execEmit_of_zero_stride hby]
    exact execEmit_of_zero_stride (s := scanView s) hby
  · by_cases hlim : s.latTo ≠ 0 ∧ s.recCount.toNat + 1 = s.latTo
    · rw [execEmit_of_limit hby hlim]
      exact (execEmit_of_limit (s := scanView s) hby hlim).trans
        (congrArg (fun u => Host.Outcome.next (stopDone u)) hview)
    · rw [execEmit_of_more hby hlim]
      exact (execEmit_of_more (s := scanView s) hby hlim).trans
        (congrArg (fun u => Host.Outcome.next { u with hdrIdx := 0, fsm := .decHdr }) hview)

theorem engineTurn_scanView (s : State) :
    engineTurn (scanView s) = viewNext (engineTurn s) := by
  have hview : (scanView s).fsm = s.fsm := rfl
  rw [engineTurn_eq, engineTurn_eq, hview]
  cases s.fsm with
  | idle | stopped => rfl
  | seeking => exact execSeekStep_scanView s
  | decHdr => exact execHdrStep_scanView s
  | readPay => exact execPayStep_scanView s
  | validating => exact execValidate_scanView s
  | emitting => exact execEmit_scanView s

/-- Settles O59: an Engine step commutes with the scan view, and keeps its frame. -/
theorem engineStepDependsOnScanOnly : Obligations.EngineStepDependsOnScanOnly := by
  refine ⟨fun s t s' hview h => ?_, fun s s' h => ?_⟩
  · apply viewNext_eq_next
    calc viewNext (engineTurn t)
        = engineTurn (scanView t) := (engineTurn_scanView t).symm
      _ = engineTurn (scanView s) := by rw [hview]
      _ = viewNext (engineTurn s) := engineTurn_scanView s
      _ = .next (scanView s') := by rw [h]; rfl
  · obtain ⟨hside, -, herr⟩ := engineFrame_eq_iff.mp (engineTurn_frame h)
    simp only [hostSide, Prod.mk.injEq] at hside
    obtain ⟨-, hfrom, hto, hby, hdata, hsel, hturns, hreads⟩ := hside
    exact ⟨hfrom, hto, hby, hdata, hsel, herr, hturns, hreads⟩

end Sys2Proof.Machine
end

section
/-! Proofs for 10_state.md: reset, and the register map as the host reads and writes it. -/

namespace Sys2Proof.Machine

/-! ### Reset -/

/-- Settles O28: a reset turn answers `resetInstance`. -/
theorem resetGivesResetValues : Obligations.ResetGivesResetValues :=
  fun _ _ h => ⟨_, step_of_turn h, rfl⟩

/-- Settles O32: the two companions speak of a payload and of a scan, and at reset there is none. -/
theorem resetHasInvariant : Obligations.ResetHasInvariant :=
  ⟨reset_inv, nofun, by simp [RecordsAreSelection, State.reset, busy, fsmCode]⟩

/-! ### Reads -/

/-- At a register's offset the block reads as the register (R35). -/
theorem readOffset_regOffset (r : Reg) (s : State) : readOffset (regOffset r) s = readReg r s := by
  simp only [readOffset, regAt_regOffset]

/-- Past the last register every offset is reserved (R35). -/
theorem regAt_of_reserved {o : Nat} (h : 0x48 ≤ o) : regAt o = none := by
  refine List.find?_eq_none.mpr fun r _ => ?_
  have hr : regOffset r ≤ 0x44 := by cases r <;> decide
  simp only [beq_iff_eq]
  omega

/-- A 16-bit register in the low half of its word (R35). -/
theorem setWidth_half (v : Half) : v.setWidth 32 = (0 : Half) ++ v :=
  BitVec.setWidth_eq_append (by decide)

/-- A field between two others. -/
theorem extractLsb'_append_middle {m n k : Nat} (hi : BitVec m) (x : BitVec n) (lo : BitVec k) :
    (hi ++ x ++ lo).extractLsb' k n = x := by
  rw [BitVec.extractLsb'_append_eq_of_le le_rfl, Nat.sub_self, BitVec.extractLsb'_append_eq_right]

/-- Settles O40, register by register. -/
theorem registerMapReads : Obligations.RegisterMapReads := by
  intro s
  have hinfo : readOffset 0x28 s = s.hdrFamily ++ s.hdrId ++ s.hdrSize ++ s.hdrSync :=
    readOffset_regOffset .hdrInfo s
  have hcsums : readOffset 0x30 s = s.hdrHcsum ++ s.hdrDcsum := readOffset_regOffset .hdrCsums s
  have hcursor : readOffset 0x1C s = BitVec.ofNat 32 s.cursor := readOffset_regOffset .cursor s
  have hresult : readOffset 0x24 s = BitVec.ofNat 32 s.records.length :=
    readOffset_regOffset .resultCount s
  rw [hinfo, hcsums, hcursor, hresult]
  refine ⟨rfl, rfl, rfl, rfl, setWidth_half s.acc, setWidth_half s.csumData,
    BitVec.toNat_ofNat .., rfl, BitVec.toNat_ofNat .., BitVec.extractLsb'_append_eq_right,
    extractLsb'_append_middle .., ?_, ?_, rfl,
    BitVec.extractLsb'_append_eq_right, BitVec.extractLsb'_append_eq_left, rfl, rfl,
    fun o ho _ => by simp only [readOffset, regAt_of_reserved ho]⟩
  · exact (BitVec.extractLsb'_append_eq_of_le (by decide)).trans (extractLsb'_append_middle ..)
  · exact (BitVec.extractLsb'_append_eq_of_le (by decide)).trans
      ((BitVec.extractLsb'_append_eq_of_le (by decide)).trans BitVec.extractLsb'_append_eq_left)

/-- Settles O42: the readout shows the record, if there is one to show. -/
theorem recordReadout : Obligations.RecordReadout := by
  intro s
  have hread (f : Descriptor → Word) (r : Option Descriptor) (hr : shownRecord s = r) :
      readRecord f s = (r.map f).getD 0 := by
    subst hr
    unfold readRecord
    cases shownRecord s <;> rfl
  have hoffset : readOffset 0x3C s = readRecord (fun r => BitVec.ofNat 32 r.offset) s :=
    readOffset_regOffset .recOffset s
  have hlength : readOffset 0x40 s = readRecord (fun r => r.length) s :=
    readOffset_regOffset .recLength s
  have hid : readOffset 0x44 s = readRecord (fun r => r.id.setWidth 32) s :=
    readOffset_regOffset .recId s
  rw [hoffset, hlength, hid]
  constructor
  · intro r hvalid hget
    have hshown : shownRecord s = some r := by rw [shownRecord, if_pos hvalid, hget]
    simp [hread _ _ hshown]
  · intro hnone
    have hshown : shownRecord s = none := by
      obtain hvalid | hsel := hnone
      · simp [shownRecord, hvalid]
      · simp [shownRecord, hsel]
    simp [hread _ _ hshown]

/-! ### Host accesses -/

/-- A whole-word read in the block records the value of its offset (R37). -/
theorem hostRead_offset {o : Nat} (h4 : o % 4 = 0) (hlt : o < 0x100) (s : State) :
    hostRead (.offset o) 4 s = .next (recordRead (readOffset o s) s) := by
  simp only [hostRead, (accessOffset_offset_ok o 4 o).mpr ⟨hlt, rfl, h4, rfl⟩]

/-- A whole-word write in the block reaches its offset (R37). -/
theorem hostWrite_offset {o : Nat} (h4 : o % 4 = 0) (hlt : o < 0x100) (v : Word) (s : State) :
    hostWrite (.offset o) 4 v s = writeOffset o v s := by
  simp only [hostWrite, (accessOffset_offset_ok o 4 o).mpr ⟨hlt, rfl, h4, rfl⟩]

/-- A write to a register other than CMD stores (R37). -/
theorem writeOffset_regOffset {r : Reg} (hr : r ≠ .cmd) (v : Word) (s : State) :
    writeOffset (regOffset r) v s = .next (storeReg r v s) := by
  simp only [writeOffset, regAt_regOffset, if_neg hr]

/-- Settles O43: a read records its value. -/
theorem hostReadHasNoSideEffect : Obligations.HostReadHasNoSideEffect :=
  fun _ _ _ h4 hle h => (step_of_turn h).trans (hostRead_offset h4 (by omega) _)

/-- What reads a bit vector of any width reads STATUS as its fields side by side (R36). -/
theorem statusWord_fields {α : Type} (f : {w : Nat} → BitVec w → α) (s : State) :
    f (statusWord s) =
      f ((0 : BitVec 12) ++ s.hdrIdx ++ s.fatalCode ++ (0 : BitVec 2) ++ BitVec.ofBool s.srcOpen ++
        BitVec.ofBool s.cmdErr ++ BitVec.ofBool s.trunc ++ BitVec.ofBool s.csumErr ++
        BitVec.ofBool (integrity s) ++ BitVec.ofBool s.resultValid ++ BitVec.ofBool (busy s) ++
        fsmCode s.fsm) := rfl

/-- STATUS[9:3] (R36). -/
theorem statusWord_flags (s : State) :
    (statusWord s).getLsbD 3 = busy s ∧ (statusWord s).getLsbD 4 = s.resultValid ∧
      (statusWord s).getLsbD 5 = integrity s ∧ (statusWord s).getLsbD 6 = s.csumErr ∧
      (statusWord s).getLsbD 7 = s.trunc ∧ (statusWord s).getLsbD 8 = s.cmdErr ∧
      (statusWord s).getLsbD 9 = s.srcOpen := by
  have hbit (i : Nat) := statusWord_fields (·.getLsbD i) s
  simp only [BitVec.getLsbD_append] at hbit
  simp only [hbit]
  simp

/-- STATUS[31:10] and STATUS[2:0] (R36). -/
theorem statusWord_codes (s : State) :
    (statusWord s).extractLsb' 0 3 = fsmCode s.fsm ∧ (statusWord s).extractLsb' 10 2 = 0 ∧
      (statusWord s).extractLsb' 12 4 = s.fatalCode ∧ (statusWord s).extractLsb' 16 4 = s.hdrIdx ∧
      (statusWord s).extractLsb' 20 12 = 0 := by
  have hcode (i k : Nat) := statusWord_fields (·.extractLsb' i k) s
  refine ⟨BitVec.extractLsb'_append_eq_right, (hcode _ _).trans ?_, (hcode _ _).trans ?_,
    (hcode _ _).trans ?_, (hcode _ _).trans ?_⟩
  all_goals simp (disch := decide) only [BitVec.extractLsb'_append_eq_of_le]
  · exact BitVec.extractLsb'_append_eq_right
  · exact BitVec.extractLsb'_append_eq_right
  · exact BitVec.extractLsb'_append_eq_right
  · rfl

/-- Settles O41: the fields, a read of STATUS, and a write to it. -/
theorem statusFields : Obligations.StatusFields := by
  rintro s v rfl
  have hstatus : readOffset 0x04 s = statusWord s := readOffset_regOffset .status s
  rw [hstatus]
  obtain ⟨hbusy, hvalid, hintegrity, hcsum, htrunc, hcmd, hopen⟩ := statusWord_flags s
  obtain ⟨hfsm, hzero, hfatal, hidx, hhigh⟩ := statusWord_codes s
  refine ⟨hfsm, hbusy, hvalid, hintegrity, hcsum, htrunc, hcmd, hopen, hzero, hfatal, hidx, hhigh,
    fun rest h => ?_, fun w rest h => ?_⟩
  · exact hstatus ▸ hostReadHasNoSideEffect s 0x04 rest rfl (by decide) h
  · calc step s
        = hostWrite (.offset 0x04) 4 w { s with turns := rest } := step_of_turn h
      _ = writeOffset 0x04 w { s with turns := rest } := hostWrite_offset rfl (by decide) w _
      _ = .next { s with turns := rest } := writeOffset_regOffset (r := .status) (by decide) w _

/-- Settles O44: a store, a read-only register, or a reserved offset. -/
theorem hostWriteStoresOrIsIgnored : Obligations.HostWriteStoresOrIsIgnored := by
  rintro s _ o v rest h rfl
  have hwrite (h4 : o % 4 = 0) (hle : o ≤ 0xFC) :
      step s = writeOffset o v { s with turns := rest } :=
    (step_of_turn h).trans (hostWrite_offset h4 (by omega) v _)
  have hstore (r : Reg) (hr : r ≠ .cmd) (ho : o = regOffset r) :
      step s = .next (storeReg r v { s with turns := rest }) := by
    subst ho
    exact (hwrite (by cases r <;> rfl) (by cases r <;> decide)).trans
      (writeOffset_regOffset hr v _)
  refine ⟨hstore .cfgFrom (by decide), hstore .cfgTo (by decide), hstore .cfgBy (by decide),
    fun ho => ?_, hstore .recSel (by decide), fun h4 hle hother => ?_⟩
  · rw [← BitVec.setWidth_eq_extractLsb' (by decide)]
    exact hstore .csumData (by decide) ho
  · cases hr : regAt o with
    | none => rw [hwrite h4 hle, writeOffset, hr]
    | some r =>
      obtain rfl := regOffset_of_regAt hr
      cases r with
      | cmd | cfgFrom | cfgTo | cfgBy | csumData | recSel => exact absurd hother (by decide)
      | _ => exact hstore _ (by decide) rfl

/-- A sub-word or unaligned access in the block is no access (R67). -/
theorem accessOffset_not_whole {o n : Nat} (ho : o < 0x100) (h : o % 4 ≠ 0 ∨ n ≠ 4) :
    accessOffset (.offset o) n = .error .notWholeWord := by
  have hnot : ¬(n = 4 ∧ o % 4 = 0) := by omega
  simp [accessOffset, blockOffset, Config.blockBytes, ho, hnot]

/-- Outside the block there is nothing to access (log 7). -/
theorem accessOffset_outside {o : Nat} (n : Nat) (ho : 0x100 ≤ o) :
    accessOffset (.offset o) n = .error .outsideBlock := by
  simp [accessOffset, blockOffset, Config.blockBytes, Nat.not_lt.mpr ho]

/-- A read or write of a place that is no access is refused as it is. -/
theorem step_of_access_error {s : State} {p : Place} {n : Nat} {v : Word} {rest : List Turn}
    {r : Refusal} (h : s.turns = .read p n :: rest ∨ s.turns = .write p n v :: rest)
    (he : accessOffset p n = .error r) : step s = .refused r := by
  obtain h | h := h <;> rw [step_of_turn h] <;> simp only [takeTurn, hostRead, hostWrite, he]

/-- Settles O45: the access is refused before it reaches a register. -/
theorem otherAccessesAreRefused : Obligations.OtherAccessesAreRefused :=
  fun _ _ n _ _ h =>
    ⟨fun ho hwhole => step_of_access_error h (accessOffset_not_whole ho hwhole),
      fun ho => step_of_access_error h (accessOffset_outside n ho)⟩

end Sys2Proof.Machine
end

section
/-! Proofs for 20_memory.md: where a host access goes, where a step takes its instruction from, and
the turns that have no step. -/

namespace Sys2Proof.Machine

/-! ### Places -/

/-- BASE_ADDR + offset is that offset of the block (R65). -/
theorem blockOffset_bus (o : Nat) :
    blockOffset (.bus (Config.baseAddr + o)) = blockOffset (.offset o) := by
  simp [blockOffset]

theorem blockOffset_bus_outside {a : Nat}
    (h : a < Config.baseAddr ∨ Config.baseAddr + 0x100 ≤ a) : blockOffset (.bus a) = none :=
  if_neg (by simp only [Config.blockBytes]; omega)

/-- An access depends on its place through the block's offset alone. -/
theorem accessOffset_congr {p q : Place} (n : Nat) (h : blockOffset p = blockOffset q) :
    accessOffset p n = accessOffset q n := by
  simp only [accessOffset, h]

/-- An access that reaches an offset is four bytes wide there (R67). -/
theorem accessOffset_ok {p : Place} {n o : Nat} (h : accessOffset p n = .ok o) :
    blockOffset p = some o ∧ n = 4 := by
  unfold accessOffset at h
  split at h
  · cases h
  · rename_i o' hp
    split at h <;> cases h
    exact ⟨hp, And.left ‹_›⟩

/-- Settles O46, from the offset that a bus address names. -/
theorem busAddressesReachTheBlock : Obligations.BusAddressesReachTheBlock :=
  ⟨Nat.mul_mod_right .., fun o n _ => accessOffset_congr n (blockOffset_bus o),
    fun a n h => by simp only [accessOffset, blockOffset_bus_outside h]⟩

/-! ### Source moves -/

theorem setSource_of_not_busy {s : State} (h : busy s = false) (src : Source) :
    setSource src s = .next { s with src := src } := by
  simp [setSource, h]

theorem setSource_of_busy {s : State} (h : busy s = true) (src : Source) :
    setSource src s = .refused .sourceHeld :=
  if_pos h

/-- Settles O47: each move is `setSource`, which tests BUSY. -/
theorem sourceMovesOnlyWhileIdle : Obligations.SourceMovesOnlyWhileIdle := by
  intro s bs rest
  have moves (src : Source) (hb : busy s = false) :=
    setSource_of_not_busy (s := { s with turns := rest }) hb src
  have held (src : Source) (hb : busy s = true) :=
    setSource_of_busy (s := { s with turns := rest }) hb src
  refine ⟨fun h hb => (step_of_turn h).trans (moves (some bs) hb),
    fun h hb => (step_of_turn h).trans (moves none hb), fun h hb => ?_⟩
  obtain h | h := h
  · exact (step_of_turn h).trans (held (some bs) hb)
  · exact (step_of_turn h).trans (held none hb)

/-! ### The three encoding domains -/

/-- With no turn pending the Engine moves (log 2). -/
theorem step_of_no_turn {s : State} (h : s.turns = []) : step s = engineTurn s := by
  simp only [step, nextTurn, h]

/-- An Engine step runs what FSM decodes to (R92). -/
theorem engineTurn_of_decode {s : State} {i : Instr} (h : decode (.fsm (fsmCode s.fsm)) = .ok i) :
    engineTurn s = exec i s := by
  have hdec : decodeFsm (fsmCode s.fsm) = .ok i := h
  simp only [engineTurn, microOperation, hdec]

/-- A whole-word access to CMD, at its offset or its bus address (R65). -/
theorem accessOffset_cmd {p : Place} (h : p = .offset 0x00 ∨ p = .bus Config.baseAddr) :
    accessOffset p 4 = .ok 0x00 := by
  have hoff : accessOffset (.offset 0x00) 4 = .ok 0x00 := rfl
  obtain rfl | rfl := h
  · exact hoff
  · exact (accessOffset_congr 4 (blockOffset_bus 0)).trans hoff

/-- A write to CMD runs the command (R181). -/
theorem hostWrite_of_decode {p : Place} {w : Word} {i : Instr}
    (hp : accessOffset p 4 = .ok 0x00) (h : decode (.command w) = .ok i) (s : State) :
    hostWrite p 4 w s = exec i s := by
  have hdec : decodeCommand w = .ok i := h
  have hcmd : regAt 0x00 = some .cmd := regAt_regOffset .cmd
  simp only [hostWrite, hp, writeOffset, hcmd, if_pos, writeCommand, hdec]

/-- The whole-header turn runs the header that stands at CURSOR (R88, log 4). -/
theorem engineHeaderTurn_of_decode {s : State} {bs : List Byte} {i : Instr}
    (hf : s.fsm = .decHdr) (h0 : s.hdrIdx = 0) (hs : s.src = some bs)
    (h : decode (.frame (bs.drop s.cursor)) = .ok i) : engineHeaderTurn s = exec i s := by
  have hat : headerAtCursor s = some i := by
    simp only [decode] at h
    simp only [headerAtCursor, hf, h0, hs, and_self, if_true]
    cases hd : decodeHeader (bs.drop s.cursor) <;> rw [hd] at h <;> cases h
    rfl
  simp only [engineHeaderTurn, hat]

/-- Settles O29: one rule for each domain. -/
theorem stepRunsDecodedInstruction : Obligations.StepRunsDecodedInstruction := by
  refine ⟨fun s i hd => ⟨fun h => ?_, fun rest h => ?_⟩, fun s w i rest hd h => ?_,
    fun s bs i rest hf h0 hs hd h => ?_⟩
  · exact (step_of_no_turn h).trans (engineTurn_of_decode hd)
  · exact (step_of_turn h).trans (engineTurn_of_decode hd)
  · obtain h | h := h
    · exact (step_of_turn h).trans (hostWrite_of_decode (accessOffset_cmd (.inl rfl)) hd _)
    · exact (step_of_turn h).trans (hostWrite_of_decode (accessOffset_cmd (.inr rfl)) hd _)
  · exact (step_of_turn h).trans (engineHeaderTurn_of_decode hf h0 hs hd)

end Sys2Proof.Machine
end

section
/-! Proofs for 20_memory.md: from a state with the invariant no turn faults, and the turns that are
refused. -/

namespace Sys2Proof.Machine

/-! ### The Engine always answers -/

/-- With a source held a read at CURSOR answers when both of its branches do (R62). -/
theorem readAtCursor_answers {s : State} {e : Result} {f : Byte → Result}
    (hs : s.src.isSome = true) (he : ∃ t, e = .next t) (hf : ∀ b, ∃ t, f b = .next t) :
    ∃ t, readAtCursor s e f = .next t := by
  obtain ⟨bs, hs⟩ := Option.isSome_iff_exists.mp hs
  cases hb : bs[s.cursor]? with
  | none =>
    rw [readAtCursor_at_end hs (List.getElem?_eq_none_iff.mp hb)]
    exact he
  | some b =>
    rw [readAtCursor_at_byte hs hb]
    exact hf b

/-- A header byte with a lane in R123's table is written there. -/
theorem headerField_answers {k : Nat} {s : State} (b : Byte)
    (h : (headerLane s.hdrSize k).isSome = true) : ∃ t, headerField k b s = .next t := by
  obtain ⟨l, hl⟩ := Option.isSome_iff_exists.mp h
  simp only [headerField, hl]
  split <;> exact ⟨_, rfl⟩

/-- Within a header of known size every byte from the third on has a lane (R123). -/
theorem headerLane_of_knownSize {s : State} {k : Nat} (hsize : knownSize s = true) (h2 : 2 ≤ k)
    (hlt : k < s.hdrSize.toNat) : (headerLane s.hdrSize k).isSome = true := by
  rw [headerLane_isSome_iff]
  obtain h10 | h12 := (knownSize_iff s).mp hsize
  · exact .inl ⟨h10, h2, by simpa [h10, Config.size10] using hlt⟩
  · exact .inr ⟨h12, h2, by simpa [h12, Config.size12] using hlt⟩

theorem execHdrStep_answers {s : State} (h : Inv s) (hf : s.fsm = .decHdr)
    (hs : s.src.isSome = true) : ∃ t, execHdrStep s = .next t := by
  refine readAtCursor_answers hs ?_ fun b => ?_
  · split <;> exact ⟨_, rfl⟩
  · by_cases h2 : 2 ≤ s.hdrIdx.toNat
    · obtain ⟨-, hsize, hlt⟩ := HeaderSoFar.of_two_le (h.inHeader hf) h2
      rw [headerByte_of_two_le b _ h2]
      exact headerField_answers b (headerLane_of_knownSize hsize h2 hlt)
    · unfold headerByte
      split
      · exact ⟨_, rfl⟩
      · exact ⟨_, if_pos (by omega)⟩

theorem execEmit_answers {s : State} (hby : s.latBy ≠ 0) : ∃ t, execEmit s = .next t := by
  by_cases hlim : s.latTo ≠ 0 ∧ s.recCount.toNat + 1 = s.latTo
  · exact ⟨_, execEmit_of_limit hby hlim⟩
  · exact ⟨_, execEmit_of_more hby hlim⟩

/-- No Engine step faults or is refused (R62, R123, R162). -/
theorem engineTurn_answers {s : State} (h : Inv s) : ∃ t, engineTurn s = .next t := by
  have held (hb : busy s = true) : s.src.isSome = true := (h.source hb).1
  cases hf : s.fsm with
  | idle | stopped => exact ⟨s, by simp only [engineTurn_eq, hf]⟩
  | seeking =>
    rw [engineTurn_of_seeking hf]
    refine readAtCursor_answers (held (by simp [busy_iff, hf])) ⟨_, rfl⟩ fun b => ?_
    split <;> exact ⟨_, rfl⟩
  | decHdr =>
    rw [engineTurn_of_decHdr hf]
    exact execHdrStep_answers h hf (held (by simp [busy_iff, hf]))
  | readPay =>
    rw [engineTurn_of_readPay hf]
    by_cases hp : s.payIdx = s.hdrDsize
    · exact ⟨_, if_pos hp⟩
    · rw [execPayStep_of_unfinished hp]
      exact readAtCursor_answers (held (by simp [busy_iff, hf])) ⟨_, rfl⟩ fun _ => ⟨_, rfl⟩
  | validating => exact ⟨_, engineTurn_of_validating hf⟩
  | emitting =>
    rw [engineTurn_of_emitting hf]
    obtain ⟨-, -, -, hby, -⟩ := h.latched
    exact execEmit_answers (by omega)

/-- What stands at CURSOR for the whole-header turn is a header (R88). -/
theorem headerAtCursor_some {s : State} {i : Instr} (h : headerAtCursor s = some i) :
    ∃ hdr, i = .hdr10 hdr ∨ i = .hdr12 hdr := by
  unfold headerAtCursor at h
  split at h
  · split at h
    · cases h
    · split at h <;> cases h
      rename_i hd
      obtain ⟨hdr, -, -, ⟨rfl, -⟩ | ⟨rfl, -⟩⟩ := decodeHeader_ok hd
      · exact ⟨hdr, .inl rfl⟩
      · exact ⟨hdr, .inr rfl⟩
  · cases h

/-- The whole-header turn runs a header, or is an Engine step (log 4). -/
theorem engineHeaderTurn_answers {s : State} (h : Inv s) : ∃ t, engineHeaderTurn s = .next t := by
  unfold engineHeaderTurn
  cases hat : headerAtCursor s with
  | none => exact engineTurn_answers h
  | some i => obtain ⟨hdr, rfl | rfl⟩ := headerAtCursor_some hat <;> exact ⟨_, rfl⟩

/-! ### The turns that are refused -/

/-- Which turn the model refuses in a state, and by which name. -/
inductive RefusedFor (s : State) : Turn → Refusal → Prop
  /-- START with legal bounds and a source of 2^32 bytes or more (R63, R183) -/
  | start {p : Place} (hp : blockOffset p = some 0x00) (hb : busy s = false)
      (hlen : Config.posBound ≤ sourceLength s) (hfrom : 0 < s.cfgFrom.toInt)
      (hto : 0 ≤ s.cfgTo.toInt) (hby : 0 < s.cfgBy.toInt) :
      RefusedFor s (.write p 4 0x00000001) .streamTooLong
  /-- a read that is no access to the block (R65, R67) -/
  | read {p : Place} {n : Nat} {r : Refusal} (he : accessOffset p n = .error r) :
      RefusedFor s (.read p n) r
  /-- a write that is no access to the block (R65, R67) -/
  | write {p : Place} {n : Nat} {v : Word} {r : Refusal} (he : accessOffset p n = .error r) :
      RefusedFor s (.write p n v) r
  /-- a source move while BUSY = 1 (R61, R236) -/
  | attach {bs : List Byte} (hb : busy s = true) : RefusedFor s (.attach bs) .sourceHeld
  /-- a source move while BUSY = 1 (R61, R236) -/
  | detach (hb : busy s = true) : RefusedFor s .detach .sourceHeld

/-- A command that always answers with BUSY = 0 always answers (R181). -/
theorem unlessBusy_update_answers (s : State) (f : State → State) :
    ∃ t, unlessBusy s (fun u => .next (f u)) = .next t := by
  unfold unlessBusy
  split <;> exact ⟨_, rfl⟩

/-- START with BUSY = 0 answers, or is refused (R183). -/
theorem startScan_answers (s : State) :
    (∃ t, startScan s = .next t) ∨ ∃ r, startScan s = .refused r := by
  simp only [startScan]
  split
  · exact .inl ⟨_, rfl⟩
  split
  · exact .inl ⟨_, rfl⟩
  split
  · exact .inl ⟨_, rfl⟩
  · split
    · exact .inr ⟨_, rfl⟩
    · exact .inl ⟨_, rfl⟩

/-- Every command but START always answers (R182, R184, R144, R145). -/
theorem command_answers {w : Word} {i : Instr} (hw : decodeCommand w = .ok i) (s : State) :
    (∃ t, exec i s = .next t) ∨ w = 1 ∧ busy s = false ∧ exec i s = startScan s := by
  obtain ⟨-, rfl⟩ | ⟨rfl, rfl⟩ | ⟨-, rfl⟩ | ⟨-, rfl⟩ | ⟨-, rfl⟩ := decodeCommand_ok hw
  · exact .inl ⟨s, rfl⟩
  · cases hb : busy s with
    | true => exact .inl ⟨_, if_pos hb⟩
    | false => exact .inr ⟨rfl, rfl, unlessBusy_of_not_busy hb⟩
  · exact .inl (unlessBusy_update_answers s fun u => { clearScan u with fsm := .idle })
  · exact .inl (unlessBusy_update_answers s fun u => { u with acc := Config.seed })
  · exact .inl (unlessBusy_update_answers s fun u => addAcc u.csumData u)

theorem hostRead_answers (p : Place) (n : Nat) (s : State) :
    (∃ t, hostRead p n s = .next t) ∨
      ∃ r, hostRead p n s = .refused r ∧ RefusedFor s (.read p n) r := by
  cases he : accessOffset p n with
  | error r => exact .inr ⟨r, by simp only [hostRead, he], .read he⟩
  | ok o => exact .inl ⟨recordRead (readOffset o s) s, by simp only [hostRead, he]⟩

/-- Every write but one of START to CMD always answers (R37, R181). -/
theorem writeOffset_answers (o : Nat) (v : Word) (s : State) :
    (∃ t, writeOffset o v s = .next t) ∨
      o = 0x00 ∧ v = 1 ∧ busy s = false ∧ writeOffset o v s = startScan s := by
  unfold writeOffset
  split
  · exact .inl ⟨_, rfl⟩
  split
  · rename_i r hr hcmd
    subst hcmd
    unfold writeCommand
    split
    · rename_i i hw
      exact (command_answers hw s).imp_right fun hstart => ⟨regAt_cmd hr, hstart⟩
    · exact .inl ⟨_, rfl⟩
  · exact .inl ⟨_, rfl⟩

theorem hostWrite_answers (p : Place) (n : Nat) (v : Word) (s : State) :
    (∃ t, hostWrite p n v s = .next t) ∨
      ∃ r, hostWrite p n v s = .refused r ∧ RefusedFor s (.write p n v) r := by
  cases he : accessOffset p n with
  | error r => exact .inr ⟨r, by simp only [hostWrite, he], .write he⟩
  | ok o =>
    obtain ⟨hp, rfl⟩ := accessOffset_ok he
    have hwrite : hostWrite p 4 v s = writeOffset o v s := by simp only [hostWrite, he]
    rw [hwrite]
    obtain hnext | ⟨rfl, rfl, hb, hstart⟩ := writeOffset_answers o v s
    · exact .inl hnext
    rw [hstart]
    refine (startScan_answers s).imp_right ?_
    rintro ⟨r, hr⟩
    obtain ⟨rfl, hlen, hfrom, hto, hby⟩ := startScan_refused hr
    exact ⟨_, hr, .start hp hb hlen hfrom hto hby⟩

/-- From a state with the invariant a turn answers, or is one of those the model refuses. -/
theorem takeTurn_answers {s : State} (h : Inv s) (u : Turn) :
    (∃ t, takeTurn u s = .next t) ∨ ∃ r, takeTurn u s = .refused r ∧ RefusedFor s u r := by
  cases u with
  | engine => exact .inl (engineTurn_answers h)
  | engineHeader => exact .inl (engineHeaderTurn_answers h)
  | read p n => exact hostRead_answers p n s
  | write p n v => exact hostWrite_answers p n v s
  | attach bs =>
    cases hb : busy s with
    | true => exact .inr ⟨_, setSource_of_busy hb _, .attach hb⟩
    | false => exact .inl ⟨_, setSource_of_not_busy hb _⟩
  | detach =>
    cases hb : busy s with
    | true => exact .inr ⟨_, setSource_of_busy hb _, .detach hb⟩
    | false => exact .inl ⟨_, setSource_of_not_busy hb _⟩
  | wait => exact .inl ⟨_, rfl⟩
  | reset => exact .inl ⟨_, rfl⟩

/-- From a state with the invariant a step answers, or its turn is one of those the model refuses. -/
theorem step_answers {s : State} (h : Inv s) :
    (∃ t, step s = .next t) ∨
      ∃ u rest r, s.turns = u :: rest ∧ step s = .refused r ∧
        RefusedFor { s with turns := rest } u r := by
  cases hturns : s.turns with
  | nil =>
    rw [step_of_no_turn hturns]
    exact .inl (engineTurn_answers h)
  | cons u rest =>
    rw [step_of_turn hturns]
    have hrest : Inv { s with turns := rest } := h.of_scanView_eq rfl
    exact (takeTurn_answers hrest u).imp_right fun ⟨r, hr, hwhy⟩ => ⟨u, rest, r, rfl, hr, hwhy⟩

/-- Settles O34: what `step_answers` leaves is the turn's own reason to be refused. -/
theorem invariantStatesNeverFault : Obligations.InvariantStatesNeverFault := by
  intro s h
  refine ⟨fun f hf => ?_, fun r hr => ?_, fun rest hturns => ?_⟩
  · obtain ⟨t, ht⟩ | ⟨u, rest, r, -, hr, -⟩ := step_answers h
    · cases hf.symm.trans ht
    · cases hf.symm.trans hr
  · obtain ⟨t, ht⟩ | ⟨u, rest, r', hturns, hr', hwhy⟩ := step_answers h
    · cases hr.symm.trans ht
    cases hr.symm.trans hr'
    cases hwhy with
    | start hp hb hlen hfrom hto hby =>
      exact .inl ⟨rfl, hb, hlen, hfrom, hto, hby, _, _, hturns, hp⟩
    | read he =>
      obtain ⟨rfl, hp⟩ | ⟨rfl, o, hp, hwhole⟩ := accessOffset_error he
      · exact .inr (.inr (.inl ⟨rfl, _, _, _, .inl hturns, hp⟩))
      · exact .inr (.inl ⟨rfl, _, _, o, _, .inl hturns, hp, hwhole⟩)
    | write he =>
      obtain ⟨rfl, hp⟩ | ⟨rfl, o, hp, hwhole⟩ := accessOffset_error he
      · exact .inr (.inr (.inl ⟨rfl, _, _, _, .inr ⟨_, hturns⟩, hp⟩))
      · exact .inr (.inl ⟨rfl, _, _, o, _, .inr ⟨_, hturns⟩, hp, hwhole⟩)
    | attach hb => exact .inr (.inr (.inr ⟨rfl, hb, _, .inr ⟨_, hturns⟩⟩))
    | detach hb => exact .inr (.inr (.inr ⟨rfl, hb, _, .inl hturns⟩))
  · obtain ht | ⟨u, rest', r, hu, -, hwhy⟩ := step_answers h
    · exact ht
    rw [hu] at hturns
    obtain hnil | hengine | hwait := hturns
    · cases hnil
    · cases hengine
      cases hwhy
    · cases hwait
      cases hwhy

end Sys2Proof.Machine
end

section
/-! Proofs for 20_memory.md: host accesses while BUSY = 1, how long a scan can run, and why its outcome
does not depend on the interleaving. -/

namespace Sys2Proof.Machine

/-! ### Host accesses while BUSY = 1 -/

theorem busy_of_scanView_eq {s t : State} (h : scanView t = scanView s) : busy t = busy s := by
  have hbusy := congrArg busy h
  exact hbusy

/-- While BUSY = 1 a command changes at most CMD_ERR (R181, R185). -/
theorem writeCommand_of_busy {s : State} (h : busy s = true) (c : Word) :
    writeCommand c s = .next s ∨ writeCommand c s = .next (setCmdErr s) := by
  unfold writeCommand
  split
  · rename_i i hw
    obtain ⟨-, rfl⟩ | ⟨-, rfl⟩ | ⟨-, rfl⟩ | ⟨-, rfl⟩ | ⟨-, rfl⟩ := decodeCommand_ok hw
    · exact .inl rfl
    all_goals exact .inr (if_pos h)
  · exact .inr rfl

/-- While BUSY = 1 a write in the block leaves the scan and the schedule (R180). -/
theorem writeOffset_of_busy {s : State} (h : busy s = true) (o : Nat) (v : Word) :
    ∃ u, writeOffset o v s = .next u ∧ scanView u = scanView s ∧ u.turns = s.turns := by
  unfold writeOffset
  split
  · exact ⟨s, rfl, rfl, rfl⟩
  split
  · obtain e | e := writeCommand_of_busy h v
    · exact ⟨_, e, rfl, rfl⟩
    · exact ⟨_, e, rfl, rfl⟩
  · exact ⟨_, rfl, scanView_storeReg _ v s, storeReg_turns _ v s⟩

theorem exists_ok_of_isOk {ε α : Type} {e : Except ε α} (h : e.isOk = true) : ∃ a, e = .ok a := by
  cases e with
  | ok a => exact ⟨a, rfl⟩
  | error _ => cases h

/-- Every access that is enabled while BUSY = 1 leaves the scan and the schedule (R180). -/
theorem takeTurn_of_enabled {s : State} {t : Turn} (hb : busy s = true)
    (henabled : enabledWhileBusy t = true) (hne : t ≠ .engine) :
    ∃ u, takeTurn t s = .next u ∧ scanView u = scanView s ∧ u.turns = s.turns := by
  cases t with
  | engine => exact absurd rfl hne
  | read p n =>
    obtain ⟨o, ho⟩ := exists_ok_of_isOk henabled
    exact ⟨recordRead (readOffset o s) s, by simp only [takeTurn, hostRead, ho], rfl, rfl⟩
  | write p n v =>
    obtain ⟨o, ho⟩ := exists_ok_of_isOk henabled
    have hwrite : takeTurn (.write p n v) s = writeOffset o v s := by
      simp only [takeTurn, hostWrite, ho]
    rw [hwrite]
    exact writeOffset_of_busy hb o v
  | engineHeader | attach | detach | wait | reset => cases henabled

/-- Settles O58: the access leaves the scan view, and BUSY is in it. -/
theorem busyHostAccessLeavesScan : Obligations.BusyHostAccessLeavesScan := by
  intro s t rest hb hturns henabled hne
  rw [step_of_turn hturns]
  obtain ⟨u, hu, hview, hrest⟩ :=
    takeTurn_of_enabled (s := { s with turns := rest }) hb henabled hne
  exact ⟨u, hu, hview, (busy_of_scanView_eq hview).trans hb, hrest⟩

/-! ### Termination -/

/-- A bound on the Engine steps of a busy state (R189): one for each byte ahead, three for each frame
that can still be emitted (R28: `REC_COUNT` is at most a tenth of the stream), and what is left of the
current phase. -/
def stepsLeft (s : State) : Nat :=
  let bytes := sourceLength s - s.cursor
  let frames := sourceLength s / 10 - s.recCount.toNat
  match s.fsm with
  | .idle => 0
  | .seeking => bytes + 3 * frames + 2
  | .decHdr => bytes + 3 * frames + 1
  | .readPay => bytes + 3 * frames + 1
  | .validating => bytes + 3 * frames
  | .emitting => bytes + 3 * frames - 1
  | .stopped => 0

/-- In the payload phase the current frame is one of those the stream has room for (R28, R126). -/
theorem Inv.frames_pos {s : State} (h : Inv s) (hf : payloadPhase s = true) :
    s.recCount.toNat < sourceLength s / 10 := by
  obtain ⟨hr, hi, -, hsize, -, hstart, hcur, -⟩ := h.payload hf
  have hcount := hi.countBound
  have h10 := (knownSize_range hsize).1
  have hle := (h.source (busy_of_payloadPhase hf)).2.2
  omega

theorem stepsLeft_of_stopped {s : State} (h : s.fsm = .stopped) : stepsLeft s = 0 := by
  simp only [stepsLeft, h]

theorem execSeekStep_stepsLeft {s t : State} (hf : s.fsm = .seeking)
    (hx : execSeekStep s = .next t) : stepsLeft t < stepsLeft s := by
  obtain ⟨bs, hs, ⟨-, rfl⟩ | ⟨b, -, hlt, ⟨-, rfl⟩ | ⟨-, rfl⟩⟩⟩ := execSeekStep_next hx
  · simp [stepsLeft, hf]
  · simp [stepsLeft, sourceLength, hf, hs]
  · simp [stepsLeft, sourceLength, hf, hs]
    omega

theorem execHdrStep_stepsLeft {s t : State} (hf : s.fsm = .decHdr)
    (hx : execHdrStep s = .next t) : stepsLeft t < stepsLeft s := by
  have hpos : 0 < stepsLeft s := by simp [stepsLeft, hf]
  have of_stopped (ht : t.fsm = .stopped) : stepsLeft t < stepsLeft s := by
    rwa [stepsLeft_of_stopped ht]
  obtain ⟨bs, hs, ⟨-, ⟨-, rfl⟩ | ⟨-, rfl⟩⟩ | ⟨b, -, hlt, u, rfl, hbyte⟩⟩ := execHdrStep_next hx
  · exact of_stopped rfl
  · exact of_stopped rfl
  have of_byte (hcur : t.cursor = s.cursor + 1) (hcount : t.recCount = s.recCount)
      (hsrc : t.src = s.src) (hfsm : t.fsm = .decHdr ∨ t.fsm = .readPay) :
      stepsLeft t < stepsLeft s := by
    obtain e | e := hfsm
    all_goals
      simp [stepsLeft, sourceLength, hf, hs, hcur, hcount, hsrc, e]
      omega
  obtain ⟨-, -, rfl⟩ | ⟨-, -, rfl⟩ | ⟨-, -, rfl⟩ | ⟨-, -, rfl⟩ | ⟨-, l, -, hlane⟩ := hbyte
  · exact of_stopped rfl
  · exact of_byte rfl rfl rfl (.inl hf)
  · exact of_stopped rfl
  · exact of_byte rfl rfl rfl (.inl hf)
  · obtain ⟨-, rfl⟩ | ⟨-, rfl⟩ := hlane
    · exact of_byte (by simp) (by simp) (by simp) (.inr rfl)
    · exact of_byte (by simp) (by simp) (by simp) (.inl (by simpa using hf))

theorem execPayStep_stepsLeft {s t : State} (hf : s.fsm = .readPay)
    (hx : execPayStep s = .next t) : stepsLeft t < stepsLeft s := by
  obtain ⟨-, rfl⟩ | ⟨-, bs, hs, ⟨-, rfl⟩ | ⟨b, -, hlt, rfl⟩⟩ := execPayStep_next hx
  · simp [stepsLeft, sourceLength, hf]
  · simp [stepsLeft, hf]
  · simp [stepsLeft, sourceLength, hf, hs]
    omega

theorem execValidate_stepsLeft {s t : State} (h : Inv s) (hf : s.fsm = .validating)
    (hx : execValidate s = .next t) : stepsLeft t < stepsLeft s := by
  have hroom := h.frames_pos (by simp [payloadPhase, hf])
  cases hx
  simp [stepsLeft, sourceLength, hf] at hroom ⊢
  omega

theorem execEmit_stepsLeft {s t : State} (h : Inv s) (hf : s.fsm = .emitting)
    (hx : execEmit s = .next t) : stepsLeft t < stepsLeft s := by
  have hphase : payloadPhase s = true := by simp [payloadPhase, hf]
  have hroom := h.frames_pos hphase
  obtain ⟨-, hi, hc⟩ := h.payload hphase
  obtain ⟨-, u, hu, hnext⟩ := execEmit_next hx
  obtain ⟨hcount, -⟩ := indexed_appendSelected hi hc (h.payloadDone (.inr hf)) hu
  have hcur : u.cursor = s.cursor := by simp [hu]
  have hsrc : u.src = s.src := by simp [hu]
  obtain ⟨-, -, rfl⟩ | ⟨-, rfl⟩ := hnext
  all_goals
    simp [stepsLeft, sourceLength, hf, hcount, hcur, hsrc] at hroom ⊢
    omega

/-- Every Engine step of a busy state brings the end of the scan nearer (R189). -/
theorem engineTurn_stepsLeft {s t : State} (h : Inv s) (hb : busy s = true)
    (hx : engineTurn s = .next t) : stepsLeft t < stepsLeft s := by
  rw [engineTurn_eq] at hx
  cases hf : s.fsm <;> simp only [hf] at hx
  case idle | stopped => simp [busy_iff, hf] at hb
  case seeking => exact execSeekStep_stepsLeft hf hx
  case decHdr => exact execHdrStep_stepsLeft hf hx
  case readPay => exact execPayStep_stepsLeft hf hx
  case validating => exact execValidate_stepsLeft h hf hx
  case emitting => exact execEmit_stepsLeft h hf hx

/-- A run of as many Engine steps as `stepsLeft` counts leaves the engine not busy. -/
theorem engineRun_stops {n : Nat} {s : State} (h : Inv s) (hn : stepsLeft s ≤ n) :
    ∃ t, engineRun n s = .next t ∧ busy t = false := by
  induction n generalizing s with
  | zero =>
    refine ⟨s, rfl, Bool.eq_false_iff.mpr fun hb => ?_⟩
    obtain ⟨t, ht⟩ := engineTurn_answers h
    have := engineTurn_stepsLeft h hb ht
    omega
  | succ n ih =>
    cases hb : busy s with
    | false => exact ⟨s, engineRun_of_not_busy hb _, hb⟩
    | true =>
      obtain ⟨t, ht⟩ := engineTurn_answers h
      have hlt := engineTurn_stepsLeft h hb ht
      rw [engineRun_succ ht]
      exact ih (engineTurn_keeps_inv h ht) (by omega)

/-! ### A scan from its START -/

/-- START that begins a scan clears and latches all that the invariant speaks of, so the invariant
holds from whatever state it came. -/
theorem inv_of_start_seeking {s : State} {bs : List Byte} (hs : s.src = some bs)
    (hlen : bs.length < Config.posBound) (hfrom : 0 < s.cfgFrom.toInt) (hby : 0 < s.cfgBy.toInt) :
    Inv { clearScan s with
      latFrom := s.cfgFrom.toInt.toNat
      latTo := s.cfgTo.toInt.toNat
      latBy := s.cfgBy.toInt.toNat
      srcOpen := true
      fsm := .seeking } :=
  inv_of_seeking rfl
    { source := ⟨bs, hs, hlen, Nat.zero_le _⟩
      sourceOpen := rfl
      noOutcome := ⟨rfl, rfl⟩
      notTruncated := rfl
      belowLimit := Nat.pos_of_ne_zero }
    { positions := by simp [Config.posBound]
      hdrIdxRange := Nat.zero_le _
      dsizeH10 := by simp
      latched := ⟨by simp only; omega, toInt_toNat_lt _, toInt_toNat_lt _, by simp only; omega,
        toInt_toNat_lt _⟩
      countBound := by simp
      recordsBound := by simp
      recordsOrdered := .nil
      recordsBehind := by simp }
    rfl rfl rfl rfl

/-- After START with BUSY = 0 the Engine stops within R189's bound. -/
theorem engineRun_scanBound_stops {s s1 : State} (hb : busy s = false)
    (hx : exec .start s = .next s1) :
    ∃ t, engineRun (scanBound (sourceLength s)) s1 = .next t ∧ busy t = false := by
  have hstart : startScan s = .next s1 := (unlessBusy_of_not_busy hb).symm.trans hx
  obtain ⟨e, -, rfl⟩ | ⟨bs, hs, hlen, hfrom, -, hby, rfl⟩ := startScan_next hstart
  · exact ⟨_, engineRun_of_not_busy (busy_stopFatal e _) _, busy_stopFatal e _⟩
  · refine engineRun_stops (inv_of_start_seeking hs hlen hfrom hby) ?_
    simp [stepsLeft, scanBound, sourceLength]

/-- Two Engine runs that leave the engine not busy leave the same state. -/
theorem engineRun_stop_unique {s t u : State} {m n : Nat} (ht : engineRun m s = .next t)
    (htb : busy t = false) (hu : engineRun n s = .next u) (hub : busy u = false) : t = u := by
  have hmn : engineRun (m + n) s = .next t :=
    (engineRun_add n ht).trans (engineRun_of_not_busy htb n)
  have hnm : engineRun (n + m) s = .next u :=
    (engineRun_add m hu).trans (engineRun_of_not_busy hub m)
  rw [Nat.add_comm] at hnm
  exact Host.Outcome.next.inj (hmn.symm.trans hnm)

/-! ### Schedules -/

/-- One step in front of a run. -/
theorem run_succ {s t : State} (n : Nat) (h : step s = .next t) :
    Host.Core.run core (n + 1) s = Host.Core.run core n t := by
  have hs : core.step s = .next t := h
  simp only [Host.Core.run, hs]

/-- A run that answers took a first step that answers. -/
theorem run_succ_next {s v : State} {n : Nat} (h : Host.Core.run core (n + 1) s = .next v) :
    ∃ t, step s = .next t ∧ Host.Core.run core n t = .next v := by
  have hcore : core.step s = step s := rfl
  cases hs : step s with
  | next t => exact ⟨t, rfl, (run_succ n hs).symm.trans h⟩
  | fault f | refused r =>
    simp only [Host.Core.run, hcore, hs] at h
    cases h

/-- A turn enabled while BUSY = 1 is for the scan one Engine step or none (R180). -/
theorem step_of_enabled {s u u' : State} {t : Turn} {ts : List Turn} (hb : busy u = true)
    (hturns : u.turns = t :: ts) (henabled : enabledWhileBusy t = true)
    (hview : scanView u = scanView s) (hstep : step u = .next u') :
    u'.turns = ts ∧ ∃ n s', engineRun n s = .next s' ∧ scanView u' = scanView s' := by
  by_cases ht : t = .engine
  · subst ht
    have hengine : engineTurn { u with turns := ts } = .next u' :=
      (step_of_turn hturns).symm.trans hstep
    obtain ⟨hdepends, hframe⟩ := engineStepDependsOnScanOnly
    obtain ⟨s', hs', hview'⟩ := hdepends { u with turns := ts } s u' hview hengine
    obtain ⟨-, -, -, -, -, -, hrest, -⟩ := hframe _ u' hengine
    exact ⟨hrest, 1, s', engineRun_succ hs', hview'.symm⟩
  · obtain ⟨x, hx, hview', -, hrest⟩ := busyHostAccessLeavesScan u t ts hb hturns henabled ht
    obtain rfl := Host.Outcome.next.inj (hx.symm.trans hstep)
    exact ⟨hrest, 0, s, rfl, hview'.trans hview⟩

/-- A schedule of turns enabled while BUSY = 1, each taken while BUSY = 1, leaves the scan where some
Engine steps alone leave it (R180). -/
theorem engineRun_of_schedule {ts : List Turn} {s u v : State} (hview : scanView u = scanView s)
    (hturns : u.turns = ts) (henabled : ∀ t ∈ ts, enabledWhileBusy t = true)
    (hbusy : ∀ k < ts.length, ∀ x, Host.Core.run core k u = .next x → busy x = true)
    (hrun : Host.Core.run core ts.length u = .next v) :
    ∃ n w, engineRun n s = .next w ∧ scanView v = scanView w := by
  induction ts generalizing s u with
  | nil =>
    cases hrun
    exact ⟨0, s, rfl, hview⟩
  | cons t ts ih =>
    obtain ⟨u', hstep, hrun'⟩ := run_succ_next hrun
    obtain ⟨hturns', m, s', hm, hview'⟩ :=
      step_of_enabled (hbusy 0 (Nat.succ_pos _) u rfl) hturns (henabled t List.mem_cons_self)
        hview hstep
    have hbusy' (k : Nat) (hk : k < ts.length) (x : State)
        (hx : Host.Core.run core k u' = .next x) : busy x = true :=
      hbusy (k + 1) (Nat.succ_lt_succ hk) x ((run_succ k hstep).trans hx)
    obtain ⟨n, w, hw, hfinal⟩ :=
      ih hview' hturns' (List.forall_mem_of_forall_mem_cons henabled) hbusy' hrun'
    exact ⟨m + n, w, (engineRun_add n hm).trans hw, hfinal⟩

theorem outcomeOf_of_scanView_eq {s t : State} (h : scanView s = scanView t) :
    outcomeOf s = outcomeOf t := by
  have hout := congrArg outcomeOf h
  exact hout

/-- The outcome of a scan is that of any Engine run from its START that has stopped. -/
theorem scanFrom_of_engineRun {s s1 w : State} {n : Nat} (hb : busy s = false)
    (hstart : exec .start s = .next s1) (hrun : engineRun n s1 = .next w)
    (hw : busy w = false) : scanFrom s = outcomeOf w := by
  obtain ⟨t, ht, htb⟩ := engineRun_scanBound_stops hb hstart
  obtain rfl := engineRun_stop_unique ht htb hrun hw
  simp only [scanFrom, hstart, ht]

/-- Settles O60: the schedule is for the scan an Engine run that has stopped, and so has the same
outcome as the run of R189's bound. -/
theorem scanOutcomeIgnoresInterleaving : Obligations.ScanOutcomeIgnoresInterleaving := by
  intro s s1 v ts hb hstart henabled hbusy hrun hstopped
  have hlen : (ts ++ [Turn.engine]).length = ts.length + 1 := by simp
  have henabled' : ∀ t ∈ ts ++ [Turn.engine], enabledWhileBusy t = true := by
    simpa [or_imp, forall_and] using ⟨henabled, rfl⟩
  obtain ⟨n, w, hw, hview⟩ :=
    engineRun_of_schedule (s := s1) (u := { s1 with turns := ts ++ [.engine] }) rfl rfl henabled'
      (fun k hk => hbusy k (Nat.le_of_lt_succ (hk.trans_eq hlen))) (hlen ▸ hrun)
  have hidle : busy w = false := by
    rw [← busy_of_scanView_eq hview]
    simp [busy, hstopped, fsmCode]
  calc outcomeOf v
      = outcomeOf w := outcomeOf_of_scanView_eq hview
    _ = scanFrom s := (scanFrom_of_engineRun hb hstart hw hidle).symm

end Sys2Proof.Machine
end

section
/-! Proofs for 30_encoding.md: the encoder and the decoder are inverse to each other in each of the
three domains of R80. -/

namespace Sys2Proof.Machine

/-! ### Well-formed headers -/

theorem wf10_iff (h : Header) :
    h.wf10 = true ↔
      h.sync = Config.sync ∧ h.size = Config.size10 ∧ h.dsize.toNat < 2 ^ 16 := by
  simp [Header.wf10, and_assoc]

theorem wf12_iff (h : Header) :
    h.wf12 = true ↔ h.sync = Config.sync ∧ h.size = Config.size12 := by
  simp [Header.wf12]

/-! ### The two formats after byte 1 -/

/-- Two sync and size bytes of a format lead to its fields (R88). -/
theorem decodeHeader_size10 (x : List Byte) :
    decodeHeader (Config.sync :: Config.size10 :: x) = decodeH10 Config.sync Config.size10 x := rfl

theorem decodeHeader_size12 (x : List Byte) :
    decodeHeader (Config.sync :: Config.size12 :: x) = decodeH12 Config.sync Config.size12 x := rfl

/-- The decoder reads back the ten bytes of an H10 header (R81). -/
theorem decodeHeader_encodeH10 {h : Header} (hw : h.wf10 = true) (rest : List Byte) :
    decodeHeader (encodeH10 h ++ rest) = .ok (.hdr10 h, rest) := by
  obtain ⟨sync, size, id, family, dsize, dcsum, hcsum⟩ := h
  obtain ⟨rfl, rfl, hsmall⟩ := (wf10_iff _).mp hw
  simp only [encodeH10, List.cons_append, List.nil_append, decodeHeader_size10, decodeH10,
    half_byteAt, half_byteAt_small dsize hsmall]

/-- The decoder reads back the twelve bytes of an H12 header (R82). -/
theorem decodeHeader_encodeH12 {h : Header} (hw : h.wf12 = true) (rest : List Byte) :
    decodeHeader (encodeH12 h ++ rest) = .ok (.hdr12 h, rest) := by
  obtain ⟨sync, size, id, family, dsize, dcsum, hcsum⟩ := h
  obtain ⟨rfl, rfl⟩ := (wf12_iff _).mp hw
  simp only [encodeH12, List.cons_append, List.nil_append, decodeHeader_size12, decodeH12,
    half_byteAt, word_byteAt]

/-- Settles O1: the two header formats by the lemmas above, the other encodings by their tables. -/
theorem decodeOfEncodeIsIdentity : Obligations.DecodeOfEncodeIsIdentity := by
  refine ⟨fun i hw => ?_, fun h rest hw => decodeHeader_encodeH10 hw rest,
    fun h rest hw => decodeHeader_encodeH12 hw rest⟩
  cases i with
  | hdr10 h =>
    have hdec := decodeHeader_encodeH10 hw []
    rw [List.append_nil] at hdec
    simp only [encode, decode, hdec, Except.map]
  | hdr12 h =>
    have hdec := decodeHeader_encodeH12 hw []
    rw [List.append_nil] at hdec
    simp only [encode, decode, hdec, Except.map]
  | nop | start | clear | csumSeed | csumWord => rfl
  | seekStep | hdrStep | payStep | validate | emit => rfl

/-! ### What the decoder accepts -/

/-- What the H10 decoder accepts after bytes 0 and 1 is the rest of an H10 header (R81). -/
theorem decodeH10_ok {b0 b1 : Byte} {x rest : List Byte} {i : Instr}
    (hd : decodeH10 b0 b1 x = .ok (i, rest)) :
    ∃ h : Header, i = .hdr10 h ∧ h.sync = b0 ∧ h.size = b1 ∧ h.dsize.toNat < 2 ^ 16 ∧
      b0 :: b1 :: x = encodeH10 h ++ rest := by
  unfold decodeH10 at hd
  split at hd
  · rename_i id fam d0 d1 c0 c1 h0 h1 tail
    cases hd
    have hsmall : ((half d0 d1).setWidth 32).toNat < 2 ^ 16 := by
      rw [BitVec.toNat_setWidth_of_le (by decide)]
      exact (half d0 d1).isLt
    refine ⟨_, rfl, rfl, rfl, hsmall, ?_⟩
    simp [encodeH10, byteAt_setWidth]
  · cases hd

/-- What the H12 decoder accepts after bytes 0 and 1 is the rest of an H12 header (R82). -/
theorem decodeH12_ok {b0 b1 : Byte} {x rest : List Byte} {i : Instr}
    (hd : decodeH12 b0 b1 x = .ok (i, rest)) :
    ∃ h : Header, i = .hdr12 h ∧ h.sync = b0 ∧ h.size = b1 ∧
      b0 :: b1 :: x = encodeH12 h ++ rest := by
  unfold decodeH12 at hd
  split at hd
  · rename_i id fam d0 d1 d2 d3 c0 c1 h0 h1 tail
    cases hd
    refine ⟨_, rfl, rfl, rfl, ?_⟩
    simp [encodeH12, byteAt_word]
  · cases hd

/-- What the decoder accepts is a well-formed header in its own format, with the rest behind it. -/
theorem decodeHeader_ok_encode {bytes rest : List Byte} {i : Instr}
    (hd : decodeHeader bytes = .ok (i, rest)) :
    ∃ h : Header, i = .hdr10 h ∧ h.wf10 = true ∧ bytes = encodeH10 h ++ rest ∨
      i = .hdr12 h ∧ h.wf12 = true ∧ bytes = encodeH12 h ++ rest := by
  unfold decodeHeader at hd
  split at hd
  · cases hd
  split at hd
  · cases hd
  rename_i b0 tail hsync
  replace hsync : b0 = Config.sync := by simpa using hsync
  split at hd
  · cases hd
  split at hd
  · rename_i h10
    obtain ⟨h, rfl, h0, h1, hsmall, hbytes⟩ := decodeH10_ok hd
    exact ⟨h, .inl ⟨rfl, (wf10_iff h).mpr ⟨h0.trans hsync, h1.trans h10, hsmall⟩, hbytes⟩⟩
  split at hd
  · rename_i h12
    obtain ⟨h, rfl, h0, h1, hbytes⟩ := decodeH12_ok hd
    exact ⟨h, .inr ⟨rfl, (wf12_iff h).mpr ⟨h0.trans hsync, h1.trans h12⟩, hbytes⟩⟩
  · cases hd

/-- What the decoder answers for an FSM code (R92). -/
theorem decodeFsm_ok {c : BitVec 3} {i : Instr} (h : decodeFsm c = .ok i) :
    c = 1 ∧ i = .seekStep ∨ c = 2 ∧ i = .hdrStep ∨ c = 3 ∧ i = .payStep ∨
      c = 4 ∧ i = .validate ∨ c = 5 ∧ i = .emit := by
  unfold decodeFsm at h
  repeat' split at h
  all_goals simp_all

/-- Settles O2: what each of the three decoders accepts, case by case. -/
theorem encodeOfDecodeIsIdentity : Obligations.EncodeOfDecodeIsIdentity := by
  refine ⟨fun bytes rest i hd => ?_, fun w i hd => ?_, fun c i hd => ?_⟩
  · obtain ⟨h, ⟨rfl, hw, hbytes⟩ | ⟨rfl, hw, hbytes⟩⟩ := decodeHeader_ok_encode hd
    · exact ⟨hw, _, rfl, hbytes⟩
    · exact ⟨hw, _, rfl, hbytes⟩
  · obtain ⟨rfl, rfl⟩ | ⟨rfl, rfl⟩ | ⟨rfl, rfl⟩ | ⟨rfl, rfl⟩ | ⟨rfl, rfl⟩ := decodeCommand_ok hd <;>
      rfl
  · obtain ⟨rfl, rfl⟩ | ⟨rfl, rfl⟩ | ⟨rfl, rfl⟩ | ⟨rfl, rfl⟩ | ⟨rfl, rfl⟩ := decodeFsm_ok hd <;> rfl

/-! ### The tables, entry by entry -/

/-- Settles O3: the five words by the table, the others because they are none of the five. -/
theorem commandWordsSelectFiveCommands : Obligations.CommandWordsSelectFiveCommands := by
  refine ⟨rfl, rfl, rfl, rfl, rfl, fun w hw => ?_⟩
  have hne (k : Word) (hk : k.toNat < 5) : w ≠ k := by
    rintro rfl
    omega
  simp only [decodeCommand, hne 0 (by decide), hne 1 (by decide), hne 2 (by decide),
    hne 3 (by decide), hne 4 (by decide), if_false]

/-- Eight bytes after byte 1 are the rest of an H10 header (R81). -/
theorem decodeH10_of_length (b0 b1 : Byte) {x : List Byte} (hx : 8 ≤ x.length) :
    ∃ h : Header, decodeH10 b0 b1 x = .ok (.hdr10 h, x.drop 8) := by
  match x, hx with
  | _ :: _ :: _ :: _ :: _ :: _ :: _ :: _ :: _, _ => exact ⟨_, rfl⟩

/-- Ten bytes after byte 1 are the rest of an H12 header (R82). -/
theorem decodeH12_of_length (b0 b1 : Byte) {x : List Byte} (hx : 10 ≤ x.length) :
    ∃ h : Header, decodeH12 b0 b1 x = .ok (.hdr12 h, x.drop 10) := by
  match x, hx with
  | _ :: _ :: _ :: _ :: _ :: _ :: _ :: _ :: _ :: _ :: _, _ => exact ⟨_, rfl⟩

/-- Settles O4: bytes 0 and 1 are tested before the length. -/
theorem firstTwoHeaderBytesSelectFormat : Obligations.FirstTwoHeaderBytesSelectFormat :=
  ⟨fun _ hx => decodeH10_of_length Config.sync Config.size10 hx,
    fun _ hx => decodeH12_of_length Config.sync Config.size12 hx,
    fun _ _ h0 => if_pos h0,
    fun _ _ h10 h12 => (if_neg h10).trans (if_neg h12)⟩

/-- Settles O5: the eight codes and the seven scan states. -/
theorem fsmCodeSelectsMicroOperation : Obligations.FsmCodeSelectsMicroOperation := by
  refine ⟨rfl, rfl, rfl, rfl, rfl, ?_, fun f => by cases f <;> decide⟩
  rintro c (rfl | rfl | rfl) <;> rfl

/-- Settles O6: the two headers are encodings, read back by O1, and the word and the code stand in
their tables. -/
theorem sampleWordsDecode : Obligations.SampleWordsDecode :=
  have ⟨hdecode, _, _⟩ := decodeOfEncodeIsIdentity
  ⟨hdecode (.hdr10 ⟨0xA5, 10, 0x16, 0x10, 4, 0x15CC, 0xE617⟩) rfl,
    hdecode (.hdr12 ⟨0xA5, 12, 0x15, 0x10, 70000, 0x7A94, 0x1234⟩) rfl,
    hdecode .start rfl, hdecode .payStep rfl⟩

/-! ### Whole headers and `wait` -/

/-- Settles O13: a well-formed header has its format's sync and size bytes. -/
theorem wholeHeaderLatchesItsFields : Obligations.WholeHeaderLatchesItsFields := by
  refine ⟨fun s h hw => ?_, fun s h hw => ?_⟩
  · obtain ⟨sync, size, id, family, dsize, dcsum, hcsum⟩ := h
    obtain ⟨rfl, rfl, -⟩ := (wf10_iff _).mp hw
    rfl
  · obtain ⟨sync, size, id, family, dsize, dcsum, hcsum⟩ := h
    obtain ⟨rfl, rfl⟩ := (wf12_iff _).mp hw
    rfl

/-- Settles O48: a wait turn is one poll, and the poll tests BUSY. -/
theorem waitPollsStatus : Obligations.WaitPollsStatus := by
  intro s rest h
  have hpoll : step s = .next (pollStatus { s with turns := rest }) := step_of_turn h
  have hread : readReg .status s = readOffset 0x04 s := (readOffset_regOffset .status s).symm
  refine ⟨fun hb => ?_, fun hb => ?_⟩
  · rw [hpoll, ← hread]
    exact congrArg Host.Outcome.next (if_neg (Bool.eq_false_iff.mp hb))
  · rw [hpoll, ← hread]
    exact congrArg Host.Outcome.next (if_pos hb)

end Sys2Proof.Machine
end

section
/-! Proofs for 30_encoding.md: the Engine steps over one whole frame, its header byte by byte, its
payload by induction, and the three steps after it. -/

namespace Sys2Proof.Machine

/-! ### Assembling a field from its bytes -/

/-- Both bytes of a checksum field written in order leave the field, whatever was there (R123). -/
theorem setByte_half_bytes (v x : Half) :
    setByte (setByte v 0 (byteAt x 0)) 1 (byteAt x 1) = x := by
  refine setByte_eq_of_bits fun i hi => ?_
  simp only [getLsbD_setByte _ _ _ _ hi, getLsbD_byteAt]
  by_cases h : i < 8
  · simp [h, show ¬ 8 ≤ i by omega]
  · simp [show 8 ≤ i by omega, hi, show i - 8 < 8 by omega, show 8 + (i - 8) = i by omega]

/-- All four bytes of a data size written in order leave the data size, whatever was there
(R123). -/
theorem setByte_word_bytes (v x : Word) :
    setByte (setByte (setByte (setByte v 0 (byteAt x 0)) 1 (byteAt x 1)) 2 (byteAt x 2)) 3
      (byteAt x 3) = x := by
  refine setByte_eq_of_bits fun i hi => ?_
  simp only [getLsbD_setByte _ _ _ _ hi, getLsbD_byteAt]
  by_cases h8 : i < 8
  · simp [h8, show ¬ 8 ≤ i by omega, show ¬ 16 ≤ i by omega, show ¬ 24 ≤ i by omega]
  by_cases h16 : i < 16
  · simp [h16, show 8 ≤ i by omega, show ¬ 16 ≤ i by omega, show ¬ 24 ≤ i by omega,
      show i - 8 < 8 by omega, show 8 + (i - 8) = i by omega]
  by_cases h24 : i < 24
  · simp [h24, show 16 ≤ i by omega, show ¬ 24 ≤ i by omega,
      show i - 16 < 8 by omega, show 16 + (i - 16) = i by omega]
  · simp [show 24 ≤ i by omega, hi, show i - 24 < 8 by omega, show 24 + (i - 24) = i by omega]

/-- The two low bytes of a data size below 2^16 written over zero leave the data size (R121,
R123). -/
theorem setByte_word_low_bytes {x : Word} (hx : x.toNat < 2 ^ 16) :
    setByte (setByte 0#32 0 (byteAt x 0)) 1 (byteAt x 1) = x := by
  refine setByte_eq_of_bits fun i hi => ?_
  simp only [getLsbD_setByte _ _ _ _ hi, getLsbD_byteAt]
  by_cases h8 : i < 8
  · simp [h8, show ¬ 8 ≤ i by omega]
  by_cases h16 : i < 16
  · simp [h16, show 8 ≤ i by omega, show i - 8 < 8 by omega, show 8 + (i - 8) = i by omega]
  · have hbit : x.getLsbD i = false :=
      Nat.testBit_lt_two_pow (hx.trans_le (Nat.pow_le_pow_right (by decide) (by omega)))
    simp [h8, h16, hbit]

/-! ### Reading ahead -/

/-- The stream from CURSOR on tells the byte at CURSOR. -/
theorem getElem?_of_drop_eq_cons {bs x : List Byte} {c : Nat} {b : Byte}
    (h : bs.drop c = b :: x) : bs[c]? = some b ∧ bs.drop (c + 1) = x := by
  constructor
  · rw [← List.head?_drop, h, List.head?_cons]
  · rw [← List.tail_drop, h, List.tail_cons]

/-- What stands behind the bytes `x` at position `c`. -/
theorem drop_add_of_eq_append {bs x y : List Byte} {c : Nat} (h : bs.drop c = x ++ y) :
    bs.drop (c + x.length) = y := by
  rw [← List.drop_drop, h, List.drop_left]

/-! ### The header -/

/-- `n` header bytes read: CURSOR and HDR_IDX move on together (R120). -/
def passHeaderBytes (n : Nat) (s : State) : State :=
  { s with cursor := s.cursor + n, hdrIdx := s.hdrIdx + BitVec.ofNat 4 n }

@[simp] theorem passHeaderBytes_zero (s : State) : passHeaderBytes 0 s = s := by
  simp [passHeaderBytes]

theorem passHeaderBytes_add (m n : Nat) (s : State) :
    passHeaderBytes m (passHeaderBytes n s) = passHeaderBytes (m + n) s := by
  simp only [passHeaderBytes, Nat.add_assoc, BitVec.add_assoc, BitVec.ofNat_add,
    Nat.add_comm m n]

theorem passHeaderBytes_writeLane (n : Nat) (l : HeaderLane) (b : Byte) (s : State) :
    passHeaderBytes n (writeLane l b s) = writeLane l b (passHeaderBytes n s) := by
  cases l <;> rfl

theorem passHeaderBytes_latchHeader (n : Nat) (h : Header) (s : State) :
    passHeaderBytes n (latchHeader h s) = latchHeader h (passHeaderBytes n s) := rfl

/-- A whole header at byte 0 passes its bytes (R126). -/
theorem wholeHeader_of_start {s : State} (h0 : s.hdrIdx = 0) (n : Nat) (h : Header) :
    wholeHeader n h s = .next (completeHeader (latchHeader h (passHeaderBytes n s))) := by
  have hidx : s.hdrIdx + BitVec.ofNat 4 n = BitVec.ofNat 4 n := by rw [h0]; exact BitVec.zero_add _
  rw [wholeHeader, passHeaderBytes, hidx]

/-- An Engine step at a header byte dispatches on its number (R120). -/
theorem engineTurn_of_headerByte {s : State} {bs x : List Byte} {b : Byte}
    (hf : s.fsm = .decHdr) (hs : s.src = some bs) (hx : bs.drop s.cursor = b :: x) :
    engineTurn s = headerByte s.hdrIdx.toNat b (passHeaderBytes 1 s) :=
  (engineTurn_of_decHdr hf).trans (execHdrStep_at_byte hs (getElem?_of_drop_eq_cons hx).1)

theorem headerByte1_of_size {b : Byte} (h : b = Config.size10 ∨ b = Config.size12) (s : State) :
    headerByte1 b s = { s with hdrSize := b } :=
  if_neg fun ⟨h10, h12⟩ => h.elim h10 h12

/-- A byte of a header field, the header's last one or not (R123, R124). -/
theorem headerField_of_lane {k : Nat} {l : HeaderLane} {s : State} (b : Byte)
    (hl : headerLane s.hdrSize k = some l) :
    headerField k b s = .next
      (if k + 1 = s.hdrSize.toNat then completeHeader (writeLane l b s) else writeLane l b s) := by
  simp only [headerField, hl, writeLane_hdrSize]
  split <;> rfl

/-- Header bytes 0 and 1 of either format, on to the first field (R121, R122). -/
theorem engineRun_syncAndSize {s : State} {bs x : List Byte} {size : Byte}
    (hf : s.fsm = .decHdr) (h0 : s.hdrIdx = 0) (hs : s.src = some bs)
    (hsize : size = Config.size10 ∨ size = Config.size12)
    (hx : bs.drop s.cursor = Config.sync :: size :: x) :
    engineRun 2 s =
      .next (latchHeader ⟨Config.sync, size, 0, 0, 0, 0, 0⟩ (passHeaderBytes 2 s)) := by
  have hstep0 : engineTurn s =
      .next (latchHeader ⟨Config.sync, 0, 0, 0, 0, 0, 0⟩ (passHeaderBytes 1 s)) := by
    rw [engineTurn_of_headerByte hf hs hx, h0]
    rfl
  have hstep1 :
      engineTurn (latchHeader ⟨Config.sync, 0, 0, 0, 0, 0, 0⟩ (passHeaderBytes 1 s)) =
        .next (latchHeader ⟨Config.sync, size, 0, 0, 0, 0, 0⟩ (passHeaderBytes 2 s)) := by
    have hidx : (s.hdrIdx + BitVec.ofNat 4 1).toNat = 1 := by rw [h0]; rfl
    calc engineTurn (latchHeader ⟨Config.sync, 0, 0, 0, 0, 0, 0⟩ (passHeaderBytes 1 s))
        = headerByte (s.hdrIdx + BitVec.ofNat 4 1).toNat size (latchHeader
            ⟨Config.sync, 0, 0, 0, 0, 0, 0⟩ (passHeaderBytes 1 (passHeaderBytes 1 s))) :=
          engineTurn_of_headerByte hf hs (getElem?_of_drop_eq_cons hx).2
      _ = .next (headerByte1 size (latchHeader
            ⟨Config.sync, 0, 0, 0, 0, 0, 0⟩ (passHeaderBytes 2 s))) := by
          rw [hidx, passHeaderBytes_add]
          rfl
      _ = _ := by
          rw [headerByte1_of_size hsize]
          rfl
  rw [engineRun_succ hstep0, engineRun_succ hstep1, engineRun_zero]

/-- What header bytes from number `k` on leave in their lanes, one lane for each byte (R123). -/
def writeLanes : Nat → List Byte → State → State
  | _, [], s => s
  | k, b :: x, s =>
    match headerLane s.hdrSize k with
    | some l => writeLanes (k + 1) x (writeLane l b s)
    | none => s

theorem writeLanes_of_lane {k : Nat} {b : Byte} {l : HeaderLane} {s : State} (x : List Byte)
    (hl : headerLane s.hdrSize k = some l) :
    writeLanes k (b :: x) s = writeLanes (k + 1) x (writeLane l b s) := by
  simp only [writeLanes, hl]

/-- An Engine step at a byte of a header field writes its lane, and completes the header if it was
the last one (R123, R124). -/
theorem engineTurn_of_fieldByte {s : State} {bs x : List Byte} {b : Byte} {k : Nat} {l : HeaderLane}
    (hf : s.fsm = .decHdr) (hs : s.src = some bs) (hx : bs.drop s.cursor = b :: x)
    (hk : s.hdrIdx.toNat = k) (h2 : 2 ≤ k) (hl : headerLane s.hdrSize k = some l) :
    engineTurn s = .next (if k + 1 = s.hdrSize.toNat
      then completeHeader (writeLane l b (passHeaderBytes 1 s))
      else writeLane l b (passHeaderBytes 1 s)) := by
  rw [engineTurn_of_headerByte hf hs hx, hk, headerByte_of_two_le b _ h2]
  exact headerField_of_lane b hl

/-- The header bytes from number `k` to the header's last one, one HDR_STEP for each (R123,
R124). -/
theorem engineRun_headerFields {x rest bs : List Byte} {k : Nat} {s : State}
    (hf : s.fsm = .decHdr) (hs : s.src = some bs) (hx : bs.drop s.cursor = x ++ rest)
    (hk : s.hdrIdx.toNat = k) (h2 : 2 ≤ k) (hsize : knownSize s = true)
    (hlen : k + x.length = s.hdrSize.toNat) (hne : x ≠ []) :
    engineRun x.length s =
      .next (completeHeader (writeLanes k x (passHeaderBytes x.length s))) := by
  induction x generalizing s k with
  | nil => exact absurd rfl hne
  | cons b x ih =>
    have hlt : k < s.hdrSize.toNat := by simp only [List.length_cons] at hlen; omega
    obtain ⟨l, hl⟩ := Option.isSome_iff_exists.mp (headerLane_of_knownSize hsize h2 hlt)
    have hstep := engineTurn_of_fieldByte hf hs hx hk h2 hl
    have hpass : passHeaderBytes x.length (writeLane l b (passHeaderBytes 1 s)) =
        writeLane l b (passHeaderBytes (x.length + 1) s) := by
      rw [passHeaderBytes_writeLane, passHeaderBytes_add]
    rw [List.length_cons] at hlen ⊢
    rw [writeLanes_of_lane (s := passHeaderBytes (x.length + 1) s) x hl, ← hpass,
      engineRun_succ hstep]
    obtain rfl | hmore := eq_or_ne x []
    · rw [if_pos (show k + 1 = s.hdrSize.toNat from hlen), List.length_nil, engineRun_zero,
        passHeaderBytes_zero, writeLanes]
    · have hpos := List.length_pos_iff.mpr hmore
      have hidx : (s.hdrIdx + 1).toNat = s.hdrIdx.toNat + 1 :=
        toNat_hdrIdx_succ (by have := knownSize_range hsize; omega)
      rw [if_neg (by omega)]
      refine ih ?_ ?_ ?_ ?_ (by omega) ?_ ?_ hmore
      · rwa [writeLane_fsm]
      · rwa [writeLane_src]
      · rw [writeLane_cursor]
        exact (getElem?_of_drop_eq_cons hx).2
      · rw [writeLane_hdrIdx]
        exact hk ▸ hidx
      · rwa [knownSize, writeLane_hdrSize]
      · rw [writeLane_hdrSize]
        show k + 1 + x.length = s.hdrSize.toNat
        omega

/-! A header's own bytes. -/

theorem headerBytes_of_wf10 {h : Header} (hw : h.wf10 = true) : headerBytes h = encodeH10 h := by
  obtain ⟨-, hsize, -⟩ := (wf10_iff h).mp hw
  exact if_pos hsize

theorem headerBytes_of_wf12 {h : Header} (hw : h.wf12 = true) : headerBytes h = encodeH12 h := by
  obtain ⟨-, hsize⟩ := (wf12_iff h).mp hw
  exact if_neg (by rw [hsize]; decide)

/-- A header of either format: its literal bytes come first, and it is as long as it says. -/
theorem headerBytes_shape {h : Header} (hw : h.wf10 = true ∨ h.wf12 = true) :
    h.sync = Config.sync ∧ (h.size = Config.size10 ∨ h.size = Config.size12) ∧
      headerBytes h = Config.sync :: h.size :: (headerBytes h).drop 2 ∧
      2 + ((headerBytes h).drop 2).length = h.size.toNat := by
  obtain hw | hw := hw
  · obtain ⟨hsync, hsize, -⟩ := (wf10_iff h).mp hw
    rw [headerBytes_of_wf10 hw, ← hsync]
    exact ⟨rfl, .inl hsize, rfl, by rw [hsize]; rfl⟩
  · obtain ⟨hsync, hsize⟩ := (wf12_iff h).mp hw
    rw [headerBytes_of_wf12 hw, ← hsync]
    exact ⟨rfl, .inr hsize, rfl, by rw [hsize]; rfl⟩

theorem length_headerBytes {h : Header} (hw : h.wf10 = true ∨ h.wf12 = true) :
    (headerBytes h).length = h.size.toNat := by
  obtain ⟨-, -, hbytes, hsize⟩ := headerBytes_shape hw
  rw [hbytes, List.length_cons, List.length_cons]
  omega

theorem two_lt_headerSize {h : Header} (hw : h.wf10 = true ∨ h.wf12 = true) :
    2 < h.size.toNat := by
  obtain ⟨-, hsize | hsize, -⟩ := headerBytes_shape hw <;> rw [hsize] <;> decide

theorem headerLane_size10 (k : Nat) : headerLane Config.size10 k = laneH10 k := rfl

theorem headerLane_size12 (k : Nat) : headerLane Config.size12 k = laneH12 k := rfl

/-- The bytes of a header's fields leave all its registers latched (R123). -/
theorem writeLanes_headerBytes {h : Header} (hw : h.wf10 = true ∨ h.wf12 = true) (s : State) :
    writeLanes 2 ((headerBytes h).drop 2) (latchHeader ⟨Config.sync, h.size, 0, 0, 0, 0, 0⟩ s) =
      latchHeader h s := by
  obtain ⟨sync, size, id, family, dsize, dcsum, hcsum⟩ := h
  obtain hw | hw := hw
  · rw [headerBytes_of_wf10 hw]
    obtain ⟨rfl, rfl, hsmall⟩ := (wf10_iff _).mp hw
    simp [encodeH10, writeLanes, headerLane_size10, laneH10, writeLane, latchHeader,
      setByte_word_low_bytes hsmall, setByte_half_bytes]
  · rw [headerBytes_of_wf12 hw]
    obtain ⟨rfl, rfl⟩ := (wf12_iff _).mp hw
    simp [encodeH12, writeLanes, headerLane_size12, laneH12, writeLane, latchHeader,
      setByte_word_bytes, setByte_half_bytes]

/-- The HDR_STEPs over a whole header of either format leave what the whole header leaves as one
instruction (R120 to R124, R126, log 4). -/
theorem engineRun_header {s : State} {bs rest : List Byte} {h : Header} (hf : s.fsm = .decHdr)
    (h0 : s.hdrIdx = 0) (hs : s.src = some bs) (hw : h.wf10 = true ∨ h.wf12 = true)
    (hx : bs.drop s.cursor = headerBytes h ++ rest) :
    engineRun h.size.toNat s = wholeHeader h.size.toNat h s := by
  obtain ⟨-, hsize, hbytes, hlen⟩ := headerBytes_shape hw
  rw [hbytes] at hx
  have hstart := engineRun_syncAndSize hf h0 hs hsize hx
  have hrest : bs.drop (s.cursor + 2) = (headerBytes h).drop 2 ++ rest :=
    drop_add_of_eq_append (x := [Config.sync, h.size]) hx
  have hne : (headerBytes h).drop 2 ≠ [] :=
    List.length_pos_iff.mp (by have := two_lt_headerSize hw; omega)
  have hfields := engineRun_headerFields
    (s := latchHeader ⟨Config.sync, h.size, 0, 0, 0, 0, 0⟩ (passHeaderBytes 2 s)) (k := 2)
    hf hs hrest (by simp [passHeaderBytes, h0]) le_rfl ((knownSize_iff _).mpr hsize) hlen hne
  rw [passHeaderBytes_latchHeader, passHeaderBytes_add, writeLanes_headerBytes hw,
    Nat.add_comm _ 2] at hfields
  rw [← hlen, engineRun_add _ hstart, hfields, wholeHeader_of_start h0]

end Sys2Proof.Machine
end

section
/-! Proofs for 30_encoding.md: the payload behind a header, by induction on its bytes, and the three
steps that end a frame. -/

namespace Sys2Proof.Machine

theorem engineRun_one (s : State) : engineRun 1 s = engineTurn s := by
  rw [engineRun]
  cases engineTurn s <;> rfl

/-! ### The payload -/

/-- One more payload byte in ACC (R140, R142). -/
theorem checksum_append_byte (p : List Byte) (b : Byte) (hp : p.length < 2 ^ 32) :
    checksum (p ++ [b]) = checksum p + laneWord (BitVec.ofNat 32 p.length) b := by
  have hlen : (BitVec.ofNat 32 p.length).toNat = p.length := Nat.mod_eq_of_lt hp
  rw [checksum, checksum, sumWords_append, laneWord_eq, hlen, BitVec.add_assoc]

/-- What reading the payload bytes `p` leaves, from CURSOR at the payload's first byte: PAY_IDX
counts them and ACC holds their checksum (R27, R142). -/
def payloadRead (p : List Byte) (s : State) : State :=
  { s with
    cursor := s.cursor + p.length
    payIdx := BitVec.ofNat 32 p.length
    acc := checksum p }

/-- A complete header has read no payload byte (R124). -/
theorem payloadRead_nil_completeHeader (s : State) :
    payloadRead [] (completeHeader s) = completeHeader s := rfl

/-- PAY_STEP at a payload byte (R142). -/
theorem execPayStep_at_byte {s : State} {bs : List Byte} {b : Byte} (hs : s.src = some bs)
    (hb : bs[s.cursor]? = some b) (hp : s.payIdx ≠ s.hdrDsize) :
    execPayStep s =
      .next { addAcc (laneWord s.payIdx b) (seekForward s) with payIdx := s.payIdx + 1 } :=
  (execPayStep_of_unfinished hp).trans (readAtCursor_at_byte hs hb)

/-- PAY_STEP after the payload bytes `q` reads the byte behind them (R142). -/
theorem engineTurn_payloadByte {s : State} {bs q x : List Byte} {b : Byte}
    (hf : s.fsm = .readPay) (hs : s.src = some bs) (hx : bs.drop (s.cursor + q.length) = b :: x)
    (hq : q.length < s.hdrDsize.toNat) :
    engineTurn (payloadRead q s) = .next (payloadRead (q ++ [b]) s) := by
  have hq32 : q.length < 2 ^ 32 := hq.trans s.hdrDsize.isLt
  have hmore : BitVec.ofNat 32 q.length ≠ s.hdrDsize := by
    intro e
    rw [← e, BitVec.toNat_ofNat, Nat.mod_eq_of_lt hq32] at hq
    exact lt_irrefl _ hq
  have hidx : BitVec.ofNat 32 q.length + 1 = BitVec.ofNat 32 (q ++ [b]).length := by
    rw [List.length_append, BitVec.ofNat_add]
    rfl
  calc engineTurn (payloadRead q s)
      = execPayStep (payloadRead q s) := engineTurn_of_readPay hf
    _ = .next { s with
          cursor := s.cursor + q.length + 1
          acc := checksum q + laneWord (BitVec.ofNat 32 q.length) b
          payIdx := BitVec.ofNat 32 q.length + 1 } :=
        execPayStep_at_byte (s := payloadRead q s) hs (getElem?_of_drop_eq_cons hx).1 hmore
    _ = .next (payloadRead (q ++ [b]) s) := by
        rw [← checksum_append_byte q b hq32, hidx, payloadRead, List.length_append, Nat.add_assoc]
        rfl

/-- The payload bytes `p` behind `q`, one PAY_STEP for each (R142). -/
theorem engineRun_payload {s : State} {bs q p rest : List Byte} (hf : s.fsm = .readPay)
    (hs : s.src = some bs) (hx : bs.drop (s.cursor + q.length) = p ++ rest)
    (hlen : q.length + p.length ≤ s.hdrDsize.toNat) :
    engineRun p.length (payloadRead q s) = .next (payloadRead (q ++ p) s) := by
  induction p generalizing q with
  | nil => rw [List.append_nil, List.length_nil, engineRun_zero]
  | cons b p ih =>
    have hlen' : (q ++ [b]).length = q.length + 1 := List.length_append
    rw [List.length_cons] at hlen ⊢
    rw [engineRun_succ (engineTurn_payloadByte hf hs hx (by omega)),
      ih (by rw [hlen']; exact (getElem?_of_drop_eq_cons hx).2) (by omega), List.append_assoc]
    rfl

/-! ### The end of a frame -/

theorem compareChecksum_eq (s : State) :
    compareChecksum s = { s with csumErr := s.csumErr || decide (s.acc ≠ s.hdrDcsum) } := by
  unfold compareChecksum
  split
  · rename_i hne
    rw [decide_eq_true hne, Bool.or_true]
  · rename_i heq
    rw [decide_eq_false heq, Bool.or_false]

theorem appendSelected_eq (n : Nat) (s : State) :
    appendSelected n s = { s with
      records := if selected s.latFrom s.latBy n then s.records ++ [currentRecord s]
        else s.records } := by
  unfold appendSelected
  split <;> rfl

theorem selected_iff (first stride n : Nat) :
    selected first stride n = true ↔ first ≤ n ∧ (n - first) % stride = 0 := by
  simp [selected]

/-- The three steps behind a whole payload: to VALIDATING, the comparison, and EMIT (R142, R143,
R161). -/
theorem engineRun_afterPayload {s : State} (hf : s.fsm = .readPay) (hdone : s.payIdx = s.hdrDsize) :
    engineRun 3 s = execEmit { s with
      csumErr := s.csumErr || decide (s.acc ≠ s.hdrDcsum), fsm := .emitting } := by
  have hpay : engineTurn s = .next { s with fsm := .validating } :=
    (engineTurn_of_readPay hf).trans (if_pos hdone)
  have hval : engineTurn { s with fsm := .validating } = .next { s with
      csumErr := s.csumErr || decide (s.acc ≠ s.hdrDcsum), fsm := .emitting } := by
    rw [engineTurn_of_validating rfl, execValidate, compareChecksum_eq]
  rw [engineRun_succ hpay, engineRun_succ hval, engineRun_one, engineTurn_of_emitting rfl]

/-! ### The whole frame -/

/-- EMITTING at a frame of header `h` and payload `p`, as seen from byte 0 of its header in `s`: the
header latched, the payload read and compared (R123, R124, R142, R143). -/
def emittingFrame (h : Header) (p : List Byte) (s : State) : State :=
  { payloadRead p (completeHeader (latchHeader h (passHeaderBytes h.size.toNat s))) with
    csumErr := s.csumErr || decide (checksum p ≠ h.dcsum)
    fsm := .emitting }

/-- One whole frame takes S + DataSize + 3 Engine steps, the last of them its EMIT (R126, R189). -/
theorem engineRun_frame {s : State} {bs p rest : List Byte} {h : Header} (hf : s.fsm = .decHdr)
    (h0 : s.hdrIdx = 0) (hs : s.src = some bs) (hw : h.wf10 = true ∨ h.wf12 = true)
    (hx : bs.drop s.cursor = headerBytes h ++ (p ++ rest)) (hp : p.length = h.dsize.toNat) :
    engineRun (h.size.toNat + p.length + 3) s = execEmit (emittingFrame h p s) := by
  have hrest : bs.drop (s.cursor + h.size.toNat) = p ++ rest :=
    length_headerBytes hw ▸ drop_add_of_eq_append hx
  have hdsize : BitVec.ofNat 32 p.length = h.dsize := by
    rw [hp, BitVec.ofNat_toNat, BitVec.setWidth_eq]
  have hheader := (engineRun_header hf h0 hs hw hx).trans (wholeHeader_of_start h0 _ h)
  have hpayload := engineRun_payload (q := [])
    (s := completeHeader (latchHeader h (passHeaderBytes h.size.toNat s))) rfl hs hrest
    (by simp [hp])
  rw [payloadRead_nil_completeHeader, List.nil_append] at hpayload
  rw [Nat.add_assoc, engineRun_add _ hheader, engineRun_add 3 hpayload,
    engineRun_afterPayload rfl hdsize]
  rfl

/-- The header that the decoder reads, in its own format, with the rest behind it (R84). -/
theorem headerBytes_of_decodeHeader {bytes rest : List Byte} {h : Header} {size : Nat}
    (hd : decodeHeader bytes = .ok (.hdr10 h, rest) ∧ size = 10 ∨
      decodeHeader bytes = .ok (.hdr12 h, rest) ∧ size = 12) :
    (h.wf10 = true ∨ h.wf12 = true) ∧ size = h.size.toNat ∧ bytes = headerBytes h ++ rest := by
  obtain ⟨hd, rfl⟩ | ⟨hd, rfl⟩ := hd
  · obtain ⟨h', ⟨e, hw, hbytes⟩ | ⟨e, -⟩⟩ := decodeHeader_ok_encode hd <;> cases e
    obtain ⟨-, hsize, -⟩ := (wf10_iff h).mp hw
    exact ⟨.inl hw, by rw [hsize]; rfl, hbytes.trans (by rw [headerBytes_of_wf10 hw])⟩
  · obtain ⟨h', ⟨e, -⟩ | ⟨e, hw, hbytes⟩⟩ := decodeHeader_ok_encode hd <;> cases e
    obtain ⟨-, hsize⟩ := (wf12_iff h).mp hw
    exact ⟨.inr hw, by rw [hsize]; rfl, hbytes.trans (by rw [headerBytes_of_wf12 hw])⟩

/-- The registers of `emittingFrame` one by one. -/
theorem emittingFrame_eq {s : State} {h : Header} {p : List Byte} (h0 : s.hdrIdx = 0)
    (hw : h.wf10 = true ∨ h.wf12 = true) (hp : p.length = h.dsize.toNat) :
    emittingFrame h p s = { s with
      hdrSync := 0xA5, hdrSize := BitVec.ofNat 8 h.size.toNat, hdrId := h.id, hdrFamily := h.family
      hdrDsize := h.dsize, hdrDcsum := h.dcsum, hdrHcsum := h.hcsum
      hdrIdx := BitVec.ofNat 4 h.size.toNat
      cursor := s.cursor + h.size.toNat + h.dsize.toNat
      acc := checksum p, payIdx := h.dsize, payStart := s.cursor + h.size.toNat
      csumErr := s.csumErr || decide (checksum p ≠ h.dcsum), fsm := .emitting } := by
  have hsync : h.sync = 0xA5 := (headerBytes_shape hw).1
  have hsize : BitVec.ofNat 8 h.size.toNat = h.size := BitVec.ofNat_toNat ..
  have hdsize : BitVec.ofNat 32 h.dsize.toNat = h.dsize := BitVec.ofNat_toNat ..
  have hidx : s.hdrIdx + BitVec.ofNat 4 h.size.toNat = BitVec.ofNat 4 h.size.toNat := by
    rw [h0]
    exact BitVec.zero_add _
  rw [hsize, ← hsync]
  simp only [emittingFrame, payloadRead, completeHeader, latchHeader, passHeaderBytes, hidx, hp,
    hdsize]

/-- Settles O53: the frame as far as its EMIT, and EMIT's two cases. -/
theorem wholeFrameIsDecodedAndIndexed : Obligations.WholeFrameIsDecodedAndIndexed := by
  intro s bs rest h size n payload recs t hf h0 hs hby hd hlen hpayload hn hrecs ht
  obtain ⟨hw, rfl, hbytes⟩ := headerBytes_of_decodeHeader hd
  have hp : payload.length = h.dsize.toNat := by
    rw [hpayload, List.length_take, Nat.min_eq_left hlen]
  have hrun := engineRun_frame (p := payload) (rest := rest.drop h.dsize.toNat) hf h0 hs hw
    (by rw [hpayload, List.take_append_drop, hbytes]) hp
  rw [hp] at hrun
  have hindex : appendSelected n { emittingFrame h payload s with recCount := BitVec.ofNat 32 n } =
      { t with hdrIdx := BitVec.ofNat 4 h.size.toNat, fsm := .emitting } := by
    rw [emittingFrame_eq h0 hw hp, appendSelected_eq, ht, hrecs]
    simp only [selected_iff, currentRecord]
  have hby' : (emittingFrame h payload s).latBy ≠ 0 := Nat.one_le_iff_ne_zero.mp hby
  have hcount : (emittingFrame h payload s).recCount.toNat + 1 = n := hn.symm
  refine ⟨fun hmore => ?_, fun hlimit => ?_⟩
  · rw [hrun, execEmit_of_more hby' (by rwa [hcount]), hcount, hindex]
  · rw [hrun, execEmit_of_limit hby' (by rwa [hcount]), hcount, hindex]
    rfl

end Sys2Proof.Machine
end

section
/-! Proofs for 30_encoding.md: a whole scan, from START over the bytes before the first header and
the frames, by induction, to the end of the stream. -/

namespace Sys2Proof.Machine

/-! ### START and seeking -/

/-- The state in which a scan begins to seek (R183). -/
def startedScan (s : State) : State :=
  { clearScan s with
    latFrom := s.cfgFrom.toInt.toNat
    latTo := s.cfgTo.toInt.toNat
    latBy := s.cfgBy.toInt.toNat
    srcOpen := true
    fsm := .seeking }

/-- START with legal bounds and a source that is short enough begins to seek (R183). -/
theorem startScan_of_legal {s : State} {bs : List Byte} (hs : s.src = some bs)
    (hlen : bs.length < Config.posBound) (hfrom : 0 < s.cfgFrom.toInt) (hto : 0 ≤ s.cfgTo.toInt)
    (hby : 0 < s.cfgBy.toInt) : startScan s = .next (startedScan s) := by
  simp only [startScan, hs]
  rw [if_neg (by omega), if_neg (by omega), if_neg (Nat.not_le.mpr hlen)]
  rfl

/-- A positive register value is the same read as signed and as unsigned (R33). -/
theorem toNat_toInt_of_pos {v : Word} (h : 0 < v.toInt) : v.toInt.toNat = v.toNat := by
  rw [BitVec.toInt_eq_toNat_cond] at h ⊢
  split at h <;> omega

/-- SEEK_STEP at a byte (R110). -/
theorem engineTurn_seekByte {s : State} {bs x : List Byte} {b : Byte} (hf : s.fsm = .seeking)
    (hs : s.src = some bs) (hx : bs.drop s.cursor = b :: x) :
    engineTurn s = if b = Config.sync then .next { s with hdrIdx := 0, fsm := .decHdr }
      else .next (seekForward s) :=
  (engineTurn_of_seeking hf).trans (readAtCursor_at_byte hs (getElem?_of_drop_eq_cons hx).1)

/-- SEEKING passes the bytes before the first sync byte and stays on it (R111, R113). -/
theorem engineRun_seeking {s : State} {bs x rest : List Byte} (hf : s.fsm = .seeking)
    (hs : s.src = some bs) (hx : bs.drop s.cursor = x ++ Config.sync :: rest)
    (hno : Config.sync ∉ x) :
    engineRun (x.length + 1) s =
      .next { s with cursor := s.cursor + x.length, hdrIdx := 0, fsm := .decHdr } := by
  induction x generalizing s with
  | nil =>
    rw [List.length_nil, Nat.zero_add, engineRun_one, engineTurn_seekByte hf hs hx, if_pos rfl]
    rfl
  | cons b x ih =>
    obtain ⟨hb, hno⟩ : Config.sync ≠ b ∧ Config.sync ∉ x := by simpa using hno
    have hstep : engineTurn s = .next (seekForward s) :=
      (engineTurn_seekByte hf hs hx).trans (if_neg (Ne.symm hb))
    rw [List.length_cons, engineRun_succ hstep,
      ih (s := seekForward s) hf hs (getElem?_of_drop_eq_cons hx).2 hno, seekForward_cursor,
      Nat.add_assoc, Nat.add_comm 1]
    rfl

/-! ### Frame after frame -/

/-- DEC_HDR behind a frame of header `h` and payload `p` that was counted and, if selected, indexed,
as seen from byte 0 of its header in `s` (R161). -/
def frameIndexed (h : Header) (p : List Byte) (s : State) : State :=
  { appendSelected (s.recCount.toNat + 1)
      { emittingFrame h p s with recCount := BitVec.ofNat 32 (s.recCount.toNat + 1) } with
    hdrIdx := 0
    fsm := .decHdr }

/-- A frame in a scan without limit (R161). -/
theorem engineRun_frame_unlimited {s : State} {bs p rest : List Byte} {h : Header}
    (hf : s.fsm = .decHdr) (h0 : s.hdrIdx = 0) (hs : s.src = some bs)
    (hw : h.wf10 = true ∨ h.wf12 = true)
    (hx : bs.drop s.cursor = headerBytes h ++ (p ++ rest)) (hp : p.length = h.dsize.toNat)
    (hby : 1 ≤ s.latBy) (hto : s.latTo = 0) :
    engineRun (h.size.toNat + p.length + 3) s = .next (frameIndexed h p s) :=
  (engineRun_frame hf h0 hs hw hx hp).trans
    (execEmit_of_more (s := emittingFrame h p s) (Nat.one_le_iff_ne_zero.mp hby)
      fun hlimit => hlimit.1 hto)

theorem frameIndexed_records (h : Header) (p : List Byte) (s : State) :
    (frameIndexed h p s).records =
      s.records ++ if selected s.latFrom s.latBy (s.recCount.toNat + 1)
        then [⟨s.cursor + h.size.toNat, h.dsize, h.id⟩] else [] := by
  rw [frameIndexed, appendSelected_eq]
  show (if selected s.latFrom s.latBy (s.recCount.toNat + 1) then _ else _) = _
  split
  · rfl
  · exact (List.append_nil _).symm

/-- Everything else that the next frame, or the scan's end, depends on. -/
theorem frameIndexed_fields (h : Header) (p : List Byte) (s : State) :
    (frameIndexed h p s).src = s.src ∧
      (frameIndexed h p s).cursor = s.cursor + h.size.toNat + p.length ∧
      (frameIndexed h p s).recCount = BitVec.ofNat 32 (s.recCount.toNat + 1) ∧
      (frameIndexed h p s).latFrom = s.latFrom ∧ (frameIndexed h p s).latTo = s.latTo ∧
      (frameIndexed h p s).latBy = s.latBy ∧
      (frameIndexed h p s).csumErr = (s.csumErr || decide (checksum p ≠ h.dcsum)) ∧
      (frameIndexed h p s).trunc = s.trunc := by
  rw [frameIndexed, appendSelected_eq]
  exact ⟨rfl, rfl, rfl, rfl, rfl, rfl, rfl, rfl⟩

/-- The selected ones of the frames' descriptors, the first frame beginning at position `p` and
being record number `n` (R127, R162). -/
def selectedRecords (first stride n p : Nat) (fs : List Frame) : List Descriptor :=
  (((streamRecords p fs).zipIdx n).filter fun r => selected first stride r.2).map Prod.fst

theorem selectedRecords_cons (first stride n p : Nat) (f : Frame) (fs : List Frame) :
    selectedRecords first stride n p (f :: fs) =
      (if selected first stride n
        then [⟨p + f.header.size.toNat, f.header.dsize, f.header.id⟩] else []) ++
      selectedRecords first stride (n + 1) (p + f.header.size.toNat + f.payload.length) fs := by
  rw [selectedRecords, streamRecords, List.zipIdx_cons, List.filter_cons]
  split <;> rfl

theorem frameWf_iff (h : Header) (p : List Byte) :
    frameWf ⟨h, p⟩ = true ↔ (h.wf10 = true ∨ h.wf12 = true) ∧ p.length = h.dsize.toNat := by
  simp [frameWf]

theorem streamBytes_cons (h : Header) (p : List Byte) (fs : List Frame) :
    streamBytes (⟨h, p⟩ :: fs) = headerBytes h ++ (p ++ streamBytes fs) :=
  List.append_assoc ..

theorem length_streamBytes_cons {h : Header} (hw : h.wf10 = true ∨ h.wf12 = true) (p : List Byte)
    (fs : List Frame) :
    (streamBytes (⟨h, p⟩ :: fs)).length = h.size.toNat + p.length + (streamBytes fs).length := by
  rw [streamBytes_cons, List.length_append, List.length_append, length_headerBytes hw,
    Nat.add_assoc]

theorem frameMismatch_eq (f : Frame) :
    frameMismatch f = decide (checksum f.payload ≠ f.header.dcsum) := by
  rw [frameMismatch, bne, beq_eq_decide, decide_not]

/-- HDR_STEP at the end of the stream before byte 0 is the scan's clean end (R120). -/
theorem engineTurn_of_cleanEnd {s : State} {bs : List Byte} (hf : s.fsm = .decHdr)
    (h0 : s.hdrIdx = 0) (hs : s.src = some bs) (hend : bs.length ≤ s.cursor) :
    engineTurn s = .next (stopDone s) :=
  (engineTurn_of_decHdr hf).trans ((readAtCursor_at_end hs hend).trans (if_pos h0))

/-- Whole frames to the end of the stream, in a scan without limit: S + DataSize + 3 steps for each
frame and one for the clean end (R189), and what the result then holds (R143, R161, R163). -/
theorem engineRun_frames {fs : List Frame} {s : State} {bs : List Byte} (hf : s.fsm = .decHdr)
    (h0 : s.hdrIdx = 0) (hs : s.src = some bs) (hx : bs.drop s.cursor = streamBytes fs)
    (hby : 1 ≤ s.latBy) (hto : s.latTo = 0) (hwf : ∀ f ∈ fs, frameWf f = true)
    (hroom : s.recCount.toNat + (streamBytes fs).length < 2 ^ 32) :
    ∃ t, engineRun ((streamBytes fs).length + 3 * fs.length + 1) s = .next t ∧
      t.fsm = .stopped ∧ t.resultValid = true ∧
      t.records = s.records ++
        selectedRecords s.latFrom s.latBy (s.recCount.toNat + 1) s.cursor fs ∧
      t.csumErr = (s.csumErr || fs.any frameMismatch) ∧ t.trunc = s.trunc := by
  induction fs generalizing s with
  | nil =>
    have hend : bs.length ≤ s.cursor := List.drop_eq_nil_iff.mp hx
    exact ⟨stopDone s, (engineRun_one s).trans (engineTurn_of_cleanEnd hf h0 hs hend), rfl, rfl,
      (List.append_nil _).symm, (Bool.or_false _).symm, rfl⟩
  | cons f fs ih =>
    obtain ⟨h, p⟩ := f
    obtain ⟨hw, hp⟩ := (frameWf_iff h p).mp (hwf _ List.mem_cons_self)
    have hframe : bs.drop s.cursor = headerBytes h ++ (p ++ streamBytes fs) :=
      hx.trans (streamBytes_cons h p fs)
    have hstream := length_streamBytes_cons hw p fs
    have hsize := two_lt_headerSize hw
    obtain ⟨hsrc, hcursor, hcount, hfrom, hto', hby', hcsum, htrunc⟩ := frameIndexed_fields h p s
    have hrest : bs.drop (frameIndexed h p s).cursor = streamBytes fs := by
      rw [hcursor, ← length_headerBytes hw]
      exact drop_add_of_eq_append (drop_add_of_eq_append hframe)
    have hnext : (frameIndexed h p s).recCount.toNat = s.recCount.toNat + 1 := by
      rw [hcount, BitVec.toNat_ofNat, Nat.mod_eq_of_lt (by omega)]
    obtain ⟨t, hrun, hstop, hvalid, hrecs, herr, htr⟩ := ih (s := frameIndexed h p s) rfl rfl
      (hsrc.trans hs) hrest (hby'.symm ▸ hby) (hto'.trans hto)
      (List.forall_mem_of_forall_mem_cons hwf) (by omega)
    have hsteps : (streamBytes (⟨h, p⟩ :: fs)).length + 3 * (fs.length + 1) + 1 =
        (h.size.toNat + p.length + 3) + ((streamBytes fs).length + 3 * fs.length + 1) := by omega
    refine ⟨t, ?_, hstop, hvalid, ?_, ?_, htr.trans htrunc⟩
    · rw [List.length_cons, hsteps,
        engineRun_add _ (engineRun_frame_unlimited hf h0 hs hw hframe hp hby hto), hrun]
    · rw [hrecs, frameIndexed_records, selectedRecords_cons, List.append_assoc, hfrom, hby', hnext,
        hcursor]
    · rw [herr, hcsum, List.any_cons, frameMismatch_eq, Bool.or_assoc]

/-! ### The scan -/

/-- A stream of frames begins with a sync byte (R81, R82). -/
theorem streamBytes_head {fs : List Frame} (hne : fs ≠ [])
    (hwf : ∀ f ∈ fs, frameWf f = true) : ∃ rest, streamBytes fs = Config.sync :: rest := by
  obtain ⟨⟨h, p⟩, fs, rfl⟩ := List.exists_cons_of_ne_nil hne
  obtain ⟨hw, -⟩ := (frameWf_iff h p).mp (hwf _ List.mem_cons_self)
  obtain ⟨-, -, hbytes, -⟩ := headerBytes_shape hw
  rw [streamBytes_cons, hbytes]
  exact ⟨_, rfl⟩

/-- A scan without limit over whole frames behind bytes that are no sync byte, from its START (R111,
R183). -/
theorem scanFrom_frames {s : State} {skipped : List Byte} {fs : List Frame}
    (hb : busy s = false) (hfrom : 0 < s.cfgFrom.toInt) (hto : s.cfgTo = 0)
    (hby : 0 < s.cfgBy.toInt) (hno : Config.sync ∉ skipped) (hne : fs ≠ [])
    (hwf : ∀ f ∈ fs, frameWf f = true) (hs : s.src = some (skipped ++ streamBytes fs))
    (hlen : (skipped ++ streamBytes fs).length < Config.posBound) :
    scanFrom s = .result
      (selectedRecords s.cfgFrom.toNat s.cfgBy.toNat 1 skipped.length fs)
      (fs.any frameMismatch) false := by
  obtain ⟨rest, hsync⟩ := streamBytes_head hne hwf
  have hstart : exec .start s = .next (startedScan s) :=
    (unlessBusy_of_not_busy hb).trans (startScan_of_legal hs hlen hfrom (by rw [hto]; decide) hby)
  have hseek := engineRun_seeking (s := startedScan s) (x := skipped) rfl hs
    (congrArg (skipped ++ ·) hsync) hno
  have hx : (skipped ++ streamBytes fs).drop (0 + skipped.length) = streamBytes fs := by
    rw [Nat.zero_add, List.drop_left]
  have hroom : 0 + (streamBytes fs).length < 2 ^ 32 := by
    rw [List.length_append] at hlen
    exact lt_of_le_of_lt (Nat.add_le_add_right (Nat.zero_le _) _) hlen
  obtain ⟨t, hrun, hstop, hvalid, hrecs, herr, htrunc⟩ := engineRun_frames
    (s := { startedScan s with cursor := 0 + skipped.length, hdrIdx := 0, fsm := .decHdr })
    rfl rfl hs hx (Int.lt_toNat.mpr hby) (by rw [startedScan, hto]; rfl) hwf hroom
  have hrecords : t.records =
      selectedRecords s.cfgFrom.toInt.toNat s.cfgBy.toInt.toNat 1 (0 + skipped.length) fs := hrecs
  have hcsum : t.csumErr = fs.any frameMismatch := herr
  have hwhole : t.trunc = false := htrunc
  have hidle : busy t = false := by simp [busy, hstop, fsmCode]
  rw [scanFrom_of_engineRun hb hstart ((engineRun_add _ hseek).trans hrun) hidle, outcomeOf,
    if_neg (not_not.mpr hstop), if_pos hvalid, hrecords, hcsum, hwhole, Nat.zero_add,
    toNat_toInt_of_pos hfrom, toNat_toInt_of_pos hby]

/-- Settles O55: the scan is `scanFrom` from reset. -/
theorem scanOfWholeFramesGivesTheirRecords : Obligations.ScanOfWholeFramesGivesTheirRecords :=
  fun _ _ _ _ hfirst hstride hno hne hwf hlen =>
    scanFrom_frames rfl hfirst rfl hstride hno hne hwf rfl hlen

end Sys2Proof.Machine
end

section
/-! Proofs for 41_sync_locator.md: SEEK_STEP's three cases, one Engine step for each byte that
SEEKING skips, and the scan of a stream that has no sync byte. -/

namespace Sys2Proof.Machine

/-! ### SEEK_STEP -/

/-- With no byte left to test there is no sync byte to find (R110). -/
theorem execSeekStep_at_end {s : State} {bs : List Byte} (hs : s.src = some bs)
    (hend : bs.length ≤ s.cursor) : execSeekStep s = .next (stopFatal .noSyncFound s) :=
  readAtCursor_at_end hs hend

/-- The sync byte is not consumed: the header decoder takes over with CURSOR at it (R110). -/
theorem execSeekStep_at_sync {s : State} {bs : List Byte} (hs : s.src = some bs)
    (hb : bs[s.cursor]? = some Config.sync) :
    execSeekStep s = .next { s with hdrIdx := 0, fsm := .decHdr } :=
  (readAtCursor_at_byte hs hb).trans (if_pos rfl)

/-- Any other byte is skipped (R110). -/
theorem execSeekStep_at_other {s : State} {bs : List Byte} {b : Byte} (hs : s.src = some bs)
    (hb : bs[s.cursor]? = some b) (hne : b ≠ Config.sync) :
    execSeekStep s = .next (seekForward s) :=
  (readAtCursor_at_byte hs hb).trans (if_neg hne)

/-- Settles O7: the three cases of R110, one lemma each. -/
theorem seekStepFailsFindsOrSkips : Obligations.SeekStepFailsFindsOrSkips :=
  ⟨rfl, fun _ _ hs => ⟨execSeekStep_at_end hs, execSeekStep_at_sync hs,
    fun _ hb hne => execSeekStep_at_other hs hb hne⟩⟩

/-! ### SEEKING counted in steps -/

/-- Once a run has moved only CURSOR, the engine still seeks: its next step is a SEEK_STEP (R92). -/
theorem engineRun_then_seekStep {s : State} {k c : Nat} (hf : s.fsm = .seeking)
    (hrun : engineRun k s = .next { s with cursor := c }) :
    engineRun (k + 1) s = execSeekStep { s with cursor := c } := by
  rw [engineRun_add 1 hrun, engineRun_one]
  exact engineTurn_of_seeking hf

/-- Each of the next `k` bytes that is no sync byte takes one Engine step, and only CURSOR moves
(R111, R113). -/
theorem engineRun_skipped {s : State} {bs : List Byte} {k : Nat} (hf : s.fsm = .seeking)
    (hs : s.src = some bs) (hk : s.cursor + k ≤ bs.length)
    (hno : ∀ j < k, bs[s.cursor + j]? ≠ some Config.sync) :
    engineRun k s = .next { s with cursor := s.cursor + k } := by
  induction k with
  | zero => rfl
  | succ k ih =>
    have hskipped : engineRun k s = .next { s with cursor := s.cursor + k } :=
      ih (Nat.le_of_succ_le hk) fun j hj => hno j (Nat.lt_succ_of_lt hj)
    have hb : bs[s.cursor + k]? = some bs[s.cursor + k] := List.getElem?_eq_getElem hk
    have hne : bs[s.cursor + k] ≠ Config.sync := fun h =>
      hno k (Nat.lt_succ_self k) (hb.trans (congrArg some h))
    exact (engineRun_then_seekStep hf hskipped).trans (execSeekStep_at_other hs hb hne)

/-- With no sync byte left SEEKING skips to the end of the stream and stops one step later (R113). -/
theorem engineRun_noSync {s : State} {bs : List Byte} (hf : s.fsm = .seeking)
    (hs : s.src = some bs) (hcursor : s.cursor ≤ bs.length)
    (hno : Config.sync ∉ bs.drop s.cursor) :
    engineRun (bs.length - s.cursor + 1) s =
      .next (stopFatal .noSyncFound { s with cursor := bs.length }) := by
  have hend : s.cursor + (bs.length - s.cursor) = bs.length := Nat.add_sub_cancel' hcursor
  have hskipped := engineRun_skipped hf hs hend.le fun j _ hj =>
    hno (List.mem_of_getElem? (List.getElem?_drop.trans hj))
  rw [hend] at hskipped
  exact (engineRun_then_seekStep hf hskipped).trans (execSeekStep_at_end hs le_rfl)

/-- Settles O51: the steps that skip come first, and one more step stops or finds the marker. -/
theorem seekingTakesSkippedBytesPlusOne : Obligations.SeekingTakesSkippedBytesPlusOne := by
  refine ⟨fun _ _ => engineRun_noSync, fun s bs m hf hs hsync hno => ?_⟩
  have hm : s.cursor + m < bs.length := (List.getElem?_eq_some_iff.mp hsync).1
  have hskipped : ∀ k ≤ m, engineRun k s = .next { s with cursor := s.cursor + k } := fun k hk =>
    engineRun_skipped hf hs (by omega) fun j hj => hno j (hj.trans_le hk)
  exact ⟨hskipped, (engineRun_then_seekStep hf (hskipped m le_rfl)).trans
    (execSeekStep_at_sync hs hsync)⟩

/-! ### The scan of a stream without a sync byte -/

/-- With legal bounds START begins to seek (R183), and SEEKING stops at the end of the stream. -/
theorem scanFrom_noSync {s : State} {bs : List Byte} (hb : busy s = false)
    (hs : s.src = some bs) (hlen : bs.length < Config.posBound) (hfrom : 0 < s.cfgFrom.toInt)
    (hto : 0 ≤ s.cfgTo.toInt) (hby : 0 < s.cfgBy.toInt) (hno : Config.sync ∉ bs) :
    scanFrom s = .fatal 1 := by
  have hstart : exec .start s = .next (startedScan s) :=
    (unlessBusy_of_not_busy hb).trans (startScan_of_legal hs hlen hfrom hto hby)
  have hrun := engineRun_noSync (s := startedScan s) rfl hs (Nat.zero_le _) hno
  exact scanFrom_of_engineRun hb hstart hrun (busy_stopFatal _ _)

/-- Settles O52: the scan is `scanFrom` from reset. -/
theorem streamWithoutSyncIsFatal : Obligations.StreamWithoutSyncIsFatal :=
  fun _ _ _ _ hfirst hlast hstride hlen hno =>
    scanFrom_noSync rfl rfl hlen hfirst hlast hstride hno

end Sys2Proof.Machine
end

section
/-! Proofs for 42_header_decoder.md: HDR_STEP byte by byte, as R120 to R124 list it. -/

namespace Sys2Proof.Machine

/-! ### The end of the stream -/

theorem execHdrStep_at_end {s : State} {bs : List Byte} (hs : s.src = some bs)
    (hend : bs.length ≤ s.cursor) :
    execHdrStep s =
      if s.hdrIdx = 0 then .next (stopDone s) else .next (stopFatal .truncatedHeader s) :=
  readAtCursor_at_end hs hend

/-- Settles O8: the two stops of R120. -/
theorem hdrStepAtEndOfStream : Obligations.HdrStepAtEndOfStream :=
  fun _ _ hs hend =>
    ⟨fun h0 => (execHdrStep_at_end hs hend).trans (if_pos h0),
      fun hne => (execHdrStep_at_end hs hend).trans (if_neg hne)⟩

/-! ### Bytes 0 and 1 -/

theorem headerByte0_of_sync {b : Byte} (h : b = Config.sync) (s : State) :
    headerByte0 b s = latchHeader ⟨b, 0, 0, 0, 0, 0, 0⟩ s :=
  if_neg (not_not.mpr h)

theorem headerByte0_of_other {b : Byte} (h : b ≠ Config.sync) (s : State) :
    headerByte0 b s = stopFatal .lostSync (latchHeader ⟨b, 0, 0, 0, 0, 0, 0⟩ s) :=
  if_pos h

theorem headerByte1_of_other {b : Byte} (h10 : b ≠ Config.size10) (h12 : b ≠ Config.size12)
    (s : State) : headerByte1 b s = stopFatal .invalidHeaderSize { s with hdrSize := b } :=
  if_pos ⟨h10, h12⟩

/-- HDR_STEP at header byte number `i` (R120). -/
theorem exec_hdrStep_at_byte {s : State} {bs : List Byte} {b : Byte} {i : BitVec 4}
    (hs : s.src = some bs) (hb : bs[s.cursor]? = some b) (hi : s.hdrIdx = i) :
    exec .hdrStep s = headerByte i.toNat b { s with cursor := s.cursor + 1, hdrIdx := i + 1 } :=
  hi ▸ execHdrStep_at_byte hs hb

/-- Settles O9: byte 0 by its check. -/
theorem hdrStepByteZero : Obligations.HdrStepByteZero := by
  intro s bs b hs hb h0
  have hstep := exec_hdrStep_at_byte hs hb h0
  exact ⟨fun hsync => hstep.trans (congrArg Host.Outcome.next (headerByte0_of_sync hsync _)),
    fun hne => hstep.trans (congrArg Host.Outcome.next (headerByte0_of_other hne _))⟩

/-- Settles O10: byte 1 by its check. -/
theorem hdrStepByteOne : Obligations.HdrStepByteOne := by
  intro s bs b hs hb h1
  have hstep := exec_hdrStep_at_byte hs hb h1
  exact ⟨fun hsize => hstep.trans (congrArg Host.Outcome.next (headerByte1_of_size hsize _)),
    fun h10 h12 => hstep.trans (congrArg Host.Outcome.next (headerByte1_of_other h10 h12 _))⟩

/-! ### The fields -/

/-- A header byte that belongs to lane `l` (R123); the header's last one completes it (R124). -/
theorem exec_hdrStep_field {s : State} {bs : List Byte} {b : Byte} {i : BitVec 4} {l : HeaderLane}
    (hs : s.src = some bs) (hb : bs[s.cursor]? = some b) (hi : s.hdrIdx = i)
    (hl : headerLane s.hdrSize i.toNat = some l) :
    exec .hdrStep s = .next (if i.toNat + 1 = s.hdrSize.toNat
      then completeHeader (writeLane l b { s with cursor := s.cursor + 1, hdrIdx := i + 1 })
      else writeLane l b { s with cursor := s.cursor + 1, hdrIdx := i + 1 }) := by
  have h2 : 2 ≤ i.toNat := by
    have hrow := (headerLane_isSome_iff _ _).mp (Option.isSome_of_eq_some hl)
    omega
  rw [exec_hdrStep_at_byte hs hb hi, headerByte_of_two_le _ _ h2]
  exact headerField_of_lane b hl

/-- A field byte before the header's last one, `u` being the state with its lane written. -/
theorem exec_hdrStep_innerField {s u : State} {bs : List Byte} {b size : Byte} {i : BitVec 4}
    {l : HeaderLane} (hs : s.src = some bs) (hb : bs[s.cursor]? = some b) (hsize : s.hdrSize = size)
    (hrow : headerLane size i.toNat = some l ∧ i.toNat + 1 ≠ size.toNat)
    (hu : writeLane l b { s with cursor := s.cursor + 1, hdrIdx := i + 1 } = u)
    (hi : s.hdrIdx = i) : exec .hdrStep s = .next u := by
  obtain ⟨hl, hmore⟩ := hrow
  rw [exec_hdrStep_field hs hb hi (hsize ▸ hl), if_neg (hsize ▸ hmore), hu]

/-- The header's last byte, `u` being the state with its lane written. -/
theorem exec_hdrStep_lastField {s u : State} {bs : List Byte} {b size : Byte} {i : BitVec 4}
    {l : HeaderLane} (hs : s.src = some bs) (hb : bs[s.cursor]? = some b) (hsize : s.hdrSize = size)
    (hrow : headerLane size i.toNat = some l ∧ i.toNat + 1 = size.toNat)
    (hu : writeLane l b { s with cursor := s.cursor + 1, hdrIdx := i + 1 } = u)
    (hi : s.hdrIdx = i) : exec .hdrStep s = .next (completeHeader u) := by
  obtain ⟨hl, hlast⟩ := hrow
  rw [exec_hdrStep_field hs hb hi (hsize ▸ hl), if_pos (hsize ▸ hlast), hu]

theorem writeLane_dsize {s : State} {b : Byte} {j : Nat} {v : Word}
    (h : setByte s.hdrDsize j b = v) : writeLane (.dsize j) b s = { s with hdrDsize := v } := by
  subst h
  rfl

theorem writeLane_dcsum {s : State} {b : Byte} {j : Nat} {v : Half}
    (h : setByte s.hdrDcsum j b = v) : writeLane (.dcsum j) b s = { s with hdrDcsum := v } := by
  subst h
  rfl

theorem writeLane_hcsum {s : State} {b : Byte} {j : Nat} {v : Half}
    (h : setByte s.hdrHcsum j b = v) : writeLane (.hcsum j) b s = { s with hdrHcsum := v } := by
  subst h
  rfl

/-- Settles O11: the rows of R123's column S = 10, the last one with R124. -/
theorem hdrStepFillsH10Fields : Obligations.HdrStepFillsH10Fields := by
  intro s bs b hs hb hsize
  exact ⟨
    exec_hdrStep_innerField (l := .id) hs hb hsize (by decide) rfl,
    exec_hdrStep_innerField (l := .family) hs hb hsize (by decide) rfl,
    exec_hdrStep_innerField hs hb hsize (by decide) (writeLane_dsize (setByte_word_0 _ b)),
    exec_hdrStep_innerField hs hb hsize (by decide) (writeLane_dsize (setByte_word_1 _ b)),
    exec_hdrStep_innerField hs hb hsize (by decide) (writeLane_dcsum (setByte_half_0 _ b)),
    exec_hdrStep_innerField hs hb hsize (by decide) (writeLane_dcsum (setByte_half_1 _ b)),
    exec_hdrStep_innerField hs hb hsize (by decide) (writeLane_hcsum (setByte_half_0 _ b)),
    exec_hdrStep_lastField hs hb hsize (by decide) (writeLane_hcsum (setByte_half_1 _ b))⟩

/-- Settles O12: the rows of R123's column S = 12, the last one with R124. -/
theorem hdrStepFillsH12Fields : Obligations.HdrStepFillsH12Fields := by
  intro s bs b hs hb hsize
  exact ⟨
    exec_hdrStep_innerField (l := .id) hs hb hsize (by decide) rfl,
    exec_hdrStep_innerField (l := .family) hs hb hsize (by decide) rfl,
    exec_hdrStep_innerField hs hb hsize (by decide) (writeLane_dsize (setByte_word_0 _ b)),
    exec_hdrStep_innerField hs hb hsize (by decide) (writeLane_dsize (setByte_word_1 _ b)),
    exec_hdrStep_innerField hs hb hsize (by decide) (writeLane_dsize (setByte_word_2 _ b)),
    exec_hdrStep_innerField hs hb hsize (by decide) (writeLane_dsize (setByte_word_3 _ b)),
    exec_hdrStep_innerField hs hb hsize (by decide) (writeLane_dcsum (setByte_half_0 _ b)),
    exec_hdrStep_innerField hs hb hsize (by decide) (writeLane_dcsum (setByte_half_1 _ b)),
    exec_hdrStep_innerField hs hb hsize (by decide) (writeLane_hcsum (setByte_half_0 _ b)),
    exec_hdrStep_lastField hs hb hsize (by decide) (writeLane_hcsum (setByte_half_1 _ b))⟩

end Sys2Proof.Machine
end

section
/-! Proofs for 42_header_decoder.md: whole headers, and a frame cut inside its payload. -/

namespace Sys2Proof.Machine

/-- Settles O14: the HDR_STEPs over the header's own bytes, and the turn that runs what is
decoded. -/
theorem headerStepsComposeToWholeHeader : Obligations.HeaderStepsComposeToWholeHeader := by
  intro s bs rest h hf h0 hs
  have compose {size : Nat}
      (hd : decodeHeader (bs.drop s.cursor) = .ok (.hdr10 h, rest) ∧ size = 10 ∨
        decodeHeader (bs.drop s.cursor) = .ok (.hdr12 h, rest) ∧ size = 12) :
      engineRun size s = wholeHeader size h s := by
    obtain ⟨hw, rfl, hbytes⟩ := headerBytes_of_decodeHeader hd
    exact engineRun_header hf h0 hs hw hbytes
  have turn {i : Instr} (hd : decodeHeader (bs.drop s.cursor) = .ok (i, rest)) :
      engineHeaderTurn s = exec i s :=
    engineHeaderTurn_of_decode hf h0 hs (by rw [decode, hd]; rfl)
  exact ⟨fun hd => ⟨compose (.inl ⟨hd, rfl⟩), turn hd⟩,
    fun hd => ⟨compose (.inr ⟨hd, rfl⟩), turn hd⟩⟩

/-- PAY_STEP at the end of the stream inside the payload (R142). -/
theorem execPayStep_at_end {s : State} {bs : List Byte} (hs : s.src = some bs)
    (hend : bs.length ≤ s.cursor) (hp : s.payIdx ≠ s.hdrDsize) :
    execPayStep s = .next (stopDone (setTrunc s)) :=
  (execPayStep_of_unfinished hp).trans (readAtCursor_at_end hs hend)

/-- A frame whose payload runs past the end of the stream takes one step for each byte that is there
and one for the stop (R142). -/
theorem engineRun_truncatedFrame {s : State} {bs p : List Byte} {h : Header} (hf : s.fsm = .decHdr)
    (h0 : s.hdrIdx = 0) (hs : s.src = some bs) (hw : h.wf10 = true ∨ h.wf12 = true)
    (hx : bs.drop s.cursor = headerBytes h ++ p) (hp : p.length < h.dsize.toNat) :
    engineRun (h.size.toNat + p.length + 1) s = .next (stopDone (setTrunc
      (payloadRead p (completeHeader (latchHeader h (passHeaderBytes h.size.toNat s)))))) := by
  have hrest : bs.drop (s.cursor + h.size.toNat) = p :=
    length_headerBytes hw ▸ drop_add_of_eq_append hx
  have hend : bs.length ≤ s.cursor + h.size.toNat + p.length := by
    have hlen := congrArg List.length hrest
    rw [List.length_drop] at hlen
    omega
  have hmore : BitVec.ofNat 32 p.length ≠ h.dsize := by
    intro e
    rw [← e, BitVec.toNat_ofNat] at hp
    exact absurd hp (Nat.not_lt.mpr (Nat.mod_le _ _))
  have hheader := (engineRun_header hf h0 hs hw hx).trans (wholeHeader_of_start h0 _ h)
  have hpayload := engineRun_payload (q := []) (rest := [])
    (s := completeHeader (latchHeader h (passHeaderBytes h.size.toNat s))) rfl hs
    (by rw [List.append_nil]; exact hrest) ((Nat.zero_add _).trans_le hp.le)
  rw [payloadRead_nil_completeHeader, List.nil_append] at hpayload
  rw [Nat.add_assoc, engineRun_add _ hheader, engineRun_add 1 hpayload, engineRun_one,
    engineTurn_of_readPay rfl]
  exact execPayStep_at_end hs hend hmore

/-- Settles O54: the registers after that stop, one by one. -/
theorem truncatedFrameStopsWithResult : Obligations.TruncatedFrameStopsWithResult := by
  intro s bs rest h size hf h0 hs hd hp
  obtain ⟨hw, rfl, hbytes⟩ := headerBytes_of_decodeHeader hd
  have hsync : h.sync = 0xA5 := (headerBytes_shape hw).1
  have hsize : BitVec.ofNat 8 h.size.toNat = h.size := BitVec.ofNat_toNat ..
  have hidx : s.hdrIdx + BitVec.ofNat 4 h.size.toNat = BitVec.ofNat 4 h.size.toNat := by
    rw [h0]
    exact BitVec.zero_add _
  rw [engineRun_truncatedFrame hf h0 hs hw hbytes hp, hsize, ← hsync, ← hidx]
  rfl

end Sys2Proof.Machine
end

section
/-! Proofs for 42_header_decoder.md: after every step ACC is the checksum of the payload bytes read
so far. -/

namespace Sys2Proof.Machine

/-! ### The payload read so far -/

/-- Outside READ_PAY, VALIDATING and EMITTING nothing is asked of ACC. -/
theorem accHoldsChecksum_of_not_payloadPhase {s : State} (h : payloadPhase s = false) :
    AccHoldsChecksum s :=
  fun hphase => absurd (h.symm.trans hphase) Bool.false_ne_true

theorem payloadPhase_of_not_busy {s : State} (h : busy s = false) : payloadPhase s = false :=
  Bool.eq_false_iff.mpr fun hphase => Bool.eq_false_iff.mp h (busy_of_payloadPhase hphase)

/-- What a scan view hides does not matter to ACC and the payload. -/
theorem AccHoldsChecksum.of_scanView_eq {s t : State} (h : AccHoldsChecksum s)
    (e : scanView t = scanView s) : AccHoldsChecksum t := by
  have hview : AccHoldsChecksum (scanView s) := h
  rw [← e] at hview
  exact hview

/-- A header's completion seeds ACC, and no payload byte has been read (R124). -/
theorem accHoldsChecksum_completeHeader (s : State) : AccHoldsChecksum (completeHeader s) :=
  fun _ => rfl

/-- PAY_IDX counts the payload bytes before CURSOR (R27). -/
theorem length_payloadSoFar {s : State} {bs : List Byte} (hs : s.src = some bs)
    (hcur : s.cursor = s.payStart + s.payIdx.toNat) (hle : s.cursor ≤ bs.length) :
    (payloadSoFar s).length = s.payIdx.toNat := by
  rw [payloadSoFar, hs, Option.getD_some, List.length_take, List.length_drop]
  omega

/-- The byte at CURSOR is the next payload byte (R27, R142). -/
theorem take_payload_succ {s : State} {bs : List Byte} {b : Byte} (hs : s.src = some bs)
    (hcur : s.cursor = s.payStart + s.payIdx.toNat) (hb : bs[s.cursor]? = some b) :
    ((s.src.getD []).drop s.payStart).take (s.payIdx.toNat + 1) = payloadSoFar s ++ [b] := by
  rw [payloadSoFar, hs, Option.getD_some, List.take_add_one, List.getElem?_drop, ← hcur, hb]
  rfl

/-! ### Micro-operations -/

theorem execPayStep_keeps_accHoldsChecksum {s t : State} (h : Inv s) (hacc : AccHoldsChecksum s)
    (hf : s.fsm = .readPay) (hx : execPayStep s = .next t) : AccHoldsChecksum t := by
  have hphase : payloadPhase s = true := by simp [payloadPhase, hf]
  obtain ⟨hr, -, -, -, -, -, hcur, hle⟩ := h.payload hphase
  obtain ⟨-, rfl⟩ | ⟨hmore, bs, hs, ⟨-, rfl⟩ | ⟨b, hb, -, rfl⟩⟩ := execPayStep_next hx
  · exact fun _ => hacc hphase
  · exact accHoldsChecksum_of_not_payloadPhase rfl
  · obtain ⟨hnext, -⟩ := toNat_payIdx_succ hle hmore
    have hlen := length_payloadSoFar hs hcur (hr.cursor_le hs).2
    have hidx : BitVec.ofNat 32 (payloadSoFar s).length = s.payIdx := by
      rw [hlen, BitVec.ofNat_toNat, BitVec.setWidth_eq]
    intro _
    calc s.acc + laneWord s.payIdx b
        = checksum (payloadSoFar s) + laneWord (BitVec.ofNat 32 (payloadSoFar s).length) b := by
          rw [hidx, hacc hphase]
      _ = checksum (payloadSoFar s ++ [b]) :=
          (checksum_append_byte _ b (hlen ▸ s.payIdx.isLt)).symm
      _ = checksum (((s.src.getD []).drop s.payStart).take (s.payIdx + 1).toNat) := by
          rw [hnext, take_payload_succ hs hcur hb]

/-- SEEK_STEP stays before the payload (R110). -/
theorem execSeekStep_payloadPhase {s t : State} (hf : s.fsm = .seeking)
    (hx : execSeekStep s = .next t) : payloadPhase t = false := by
  obtain ⟨bs, -, ⟨-, rfl⟩ | ⟨b, -, -, ⟨-, rfl⟩ | ⟨-, rfl⟩⟩⟩ := execSeekStep_next hx
  · rfl
  · rfl
  · simp [payloadPhase, hf]

/-- EMIT leaves the payload behind (R161). -/
theorem execEmit_payloadPhase {s t : State} (hx : execEmit s = .next t) :
    payloadPhase t = false := by
  obtain ⟨-, u, -, ⟨-, -, rfl⟩ | ⟨-, rfl⟩⟩ := execEmit_next hx <;> rfl

/-- HDR_STEP completes the header, goes on inside it, or stops (R120 to R124). -/
theorem execHdrStep_outcome {s t : State} (hf : s.fsm = .decHdr)
    (hx : execHdrStep s = .next t) :
    (∃ u, t = completeHeader u) ∨ t.fsm = .decHdr ∨ t.fsm = .stopped := by
  obtain ⟨bs, -, ⟨-, ⟨-, rfl⟩ | ⟨-, rfl⟩⟩ | ⟨b, -, -, u, rfl, hbyte⟩⟩ := execHdrStep_next hx
  · exact .inr (.inr rfl)
  · exact .inr (.inr rfl)
  obtain ⟨-, -, rfl⟩ | ⟨-, -, rfl⟩ | ⟨-, -, rfl⟩ | ⟨-, -, rfl⟩ | ⟨-, l, -, hlane⟩ := hbyte
  · exact .inr (.inr rfl)
  · exact .inr (.inl hf)
  · exact .inr (.inr rfl)
  · exact .inr (.inl hf)
  · obtain ⟨-, rfl⟩ | ⟨-, rfl⟩ := hlane
    · exact .inl ⟨_, rfl⟩
    · exact .inr (.inl ((writeLane_fsm l b _).trans hf))

/-- HDR_STEP comes to a payload by completing the header alone (R124). -/
theorem execHdrStep_accHoldsChecksum {s t : State} (hf : s.fsm = .decHdr)
    (hx : execHdrStep s = .next t) : AccHoldsChecksum t := by
  obtain ⟨u, rfl⟩ | ht | ht := execHdrStep_outcome hf hx
  · exact accHoldsChecksum_completeHeader u
  · exact accHoldsChecksum_of_not_payloadPhase (by simp [payloadPhase, ht])
  · exact accHoldsChecksum_of_not_payloadPhase (by simp [payloadPhase, ht])

theorem execValidate_keeps_accHoldsChecksum {s t : State} (hacc : AccHoldsChecksum s)
    (hf : s.fsm = .validating) (hx : execValidate s = .next t) : AccHoldsChecksum t := by
  have hphase : payloadPhase s = true := by simp [payloadPhase, hf]
  cases hx
  rw [compareChecksum_eq]
  exact fun _ => hacc hphase

/-! ### Turns -/

theorem engineTurn_keeps_accHoldsChecksum {s t : State} (h : Inv s) (hacc : AccHoldsChecksum s)
    (hx : engineTurn s = .next t) : AccHoldsChecksum t := by
  obtain rfl | ⟨hf, hx⟩ | ⟨hf, hx⟩ | ⟨hf, hx⟩ | ⟨hf, hx⟩ | ⟨hf, hx⟩ := engineTurn_next hx
  · exact hacc
  · exact accHoldsChecksum_of_not_payloadPhase (execSeekStep_payloadPhase hf hx)
  · exact execHdrStep_accHoldsChecksum hf hx
  · exact execPayStep_keeps_accHoldsChecksum h hacc hf hx
  · exact execValidate_keeps_accHoldsChecksum hacc hf hx
  · exact accHoldsChecksum_of_not_payloadPhase (execEmit_payloadPhase hx)

theorem engineHeaderTurn_keeps_accHoldsChecksum {s t : State} (h : Inv s)
    (hacc : AccHoldsChecksum s) (hx : engineHeaderTurn s = .next t) : AccHoldsChecksum t := by
  obtain ⟨bs, i, rest, -, -, -, hd, hx⟩ | hx := engineHeaderTurn_next hx
  · obtain ⟨hdr, -, -, ⟨rfl, -⟩ | ⟨rfl, -⟩⟩ := decodeHeader_ok hd <;> cases hx <;>
      exact accHoldsChecksum_completeHeader _
  · exact engineTurn_keeps_accHoldsChecksum h hacc hx

/-- A command with BUSY = 0 does not come to a payload, and no other changes ACC or the payload
(R181 to R185). -/
theorem command_keeps_accHoldsChecksum {s t : State} {w : Word} {i : Instr}
    (hacc : AccHoldsChecksum s) (hw : decodeCommand w = .ok i) (hx : exec i s = .next t) :
    AccHoldsChecksum t := by
  have of_rejected : AccHoldsChecksum (setCmdErr s) := hacc.of_scanView_eq rfl
  have of_not_busy (hb : busy t = false) : AccHoldsChecksum t :=
    accHoldsChecksum_of_not_payloadPhase (payloadPhase_of_not_busy hb)
  obtain ⟨-, rfl⟩ | ⟨-, rfl⟩ | ⟨-, rfl⟩ | ⟨-, rfl⟩ | ⟨-, rfl⟩ := decodeCommand_ok hw
  · cases hx
    exact hacc
  · obtain ⟨-, rfl⟩ | ⟨-, hx⟩ := unlessBusy_next hx
    · exact of_rejected
    · obtain ⟨e, -, rfl⟩ | ⟨bs, -, -, -, -, -, rfl⟩ := startScan_next hx
      · exact of_not_busy (busy_stopFatal e _)
      · exact accHoldsChecksum_of_not_payloadPhase rfl
  · obtain ⟨-, rfl⟩ | ⟨-, rfl⟩ := execClear_next hx
    · exact of_rejected
    · exact of_not_busy rfl
  · obtain ⟨-, rfl⟩ | ⟨hb, rfl⟩ := execCsumSeed_next hx
    · exact of_rejected
    · exact of_not_busy hb
  · obtain ⟨-, rfl⟩ | ⟨hb, rfl⟩ := execCsumWord_next hx
    · exact of_rejected
    · exact of_not_busy hb

theorem setSource_accHoldsChecksum {s t : State} {src : Source}
    (hx : setSource src s = .next t) : AccHoldsChecksum t := by
  obtain ⟨hb, rfl⟩ := setSource_next hx
  exact accHoldsChecksum_of_not_payloadPhase (payloadPhase_of_not_busy hb)

theorem takeTurn_keeps_accHoldsChecksum {s t : State} (h : Inv s) (hacc : AccHoldsChecksum s)
    (u : Turn) (hx : takeTurn u s = .next t) : AccHoldsChecksum t := by
  cases u with
  | engine => exact engineTurn_keeps_accHoldsChecksum h hacc hx
  | engineHeader => exact engineHeaderTurn_keeps_accHoldsChecksum h hacc hx
  | read p n =>
    obtain ⟨v, rfl⟩ := hostRead_next hx
    exact hacc.of_scanView_eq rfl
  | write p n v =>
    obtain ⟨i, hw, hx⟩ | rfl | ⟨r, rfl⟩ | rfl := hostWrite_next hx
    · exact command_keeps_accHoldsChecksum hacc hw hx
    · exact hacc.of_scanView_eq rfl
    · exact hacc.of_scanView_eq (scanView_storeReg r v s)
    · exact hacc
  | attach bs => exact setSource_accHoldsChecksum hx
  | detach => exact setSource_accHoldsChecksum hx
  | wait =>
    cases hx
    exact hacc.of_scanView_eq (scanView_pollStatus s)
  | reset =>
    cases hx
    exact accHoldsChecksum_of_not_payloadPhase rfl

/-- Settles O35: each turn keeps it, and PAY_STEP is the one that adds a byte. -/
theorem stepKeepsChecksumInAccumulator : Obligations.StepKeepsChecksumInAccumulator := by
  intro s t h hacc hx
  unfold step nextTurn at hx
  split at hx
  · exact engineTurn_keeps_accHoldsChecksum h hacc hx
  · exact takeTurn_keeps_accHoldsChecksum (h.of_scanView_eq (t := dropTurn s) rfl)
      (hacc.of_scanView_eq (t := dropTurn s) rfl) _ hx

end Sys2Proof.Machine
end

section
/-! Proofs for 42_header_decoder.md: every scan reaches STOPPED. -/

namespace Sys2Proof.Machine

/-- No Engine step leads to IDLE: reset and CLEAR alone do (R184, R186). -/
theorem engineTurn_ne_idle {s t : State} (h : s.fsm ≠ .idle) (hx : engineTurn s = .next t) :
    t.fsm ≠ .idle := by
  obtain rfl | ⟨-, hx⟩ | ⟨hf, hx⟩ | ⟨-, hx⟩ | ⟨-, hx⟩ | ⟨-, hx⟩ := engineTurn_next hx
  · exact h
  · obtain ⟨bs, -, ⟨-, rfl⟩ | ⟨b, -, -, ⟨-, rfl⟩ | ⟨-, rfl⟩⟩⟩ := execSeekStep_next hx
    · nofun
    · nofun
    · exact h
  · obtain ⟨u, rfl⟩ | ht | ht := execHdrStep_outcome hf hx
    · nofun
    · simp [ht]
    · simp [ht]
  · obtain ⟨-, rfl⟩ | ⟨-, bs, -, ⟨-, rfl⟩ | ⟨b, -, -, rfl⟩⟩ := execPayStep_next hx
    · nofun
    · nofun
    · exact h
  · cases hx
    nofun
  · obtain ⟨-, u, -, ⟨-, -, rfl⟩ | ⟨-, rfl⟩⟩ := execEmit_next hx <;> nofun

theorem engineRun_ne_idle {n : Nat} {s t : State} (h : s.fsm ≠ .idle)
    (hx : engineRun n s = .next t) : t.fsm ≠ .idle := by
  induction n generalizing s with
  | zero => cases hx; exact h
  | succ n ih =>
    cases hs : engineTurn s with
    | next u => exact ih (engineTurn_ne_idle h hs) ((engineRun_succ hs).symm.trans hx)
    | fault f | refused r => simp only [engineRun, hs] at hx; cases hx

/-- START stops at once or begins to seek (R183). -/
theorem startScan_ne_idle {s t : State} (hx : startScan s = .next t) : t.fsm ≠ .idle := by
  obtain ⟨e, -, rfl⟩ | ⟨bs, -, -, -, -, -, rfl⟩ := startScan_next hx <;> nofun

/-- Settles O57: within the bound the Engine is not busy any more, and it is not idle again. -/
theorem everyScanTerminates : Obligations.EveryScanTerminates := by
  intro s s1 hb hx
  obtain ⟨t, ht, hidle⟩ := engineRun_scanBound_stops hb hx
  have hstart : startScan s = .next s1 := (unlessBusy_of_not_busy hb).symm.trans hx
  have hne : t.fsm ≠ .idle := engineRun_ne_idle (startScan_ne_idle hstart) ht
  have hstop : t.fsm = .stopped := by
    by_contra hstop
    exact Bool.eq_false_iff.mp hidle ((busy_iff t).mpr ⟨hne, hstop⟩)
  exact ⟨t, ht, hstop⟩

end Sys2Proof.Machine
end

section
/-! Proofs for 43_checksum.md: the checksum law as a sum of natural numbers, by words and by lanes,
and what a change of one byte does to it. -/

namespace Sys2Proof.Machine

/-! ### The sums of R140 -/

/-- The little-endian words of a payload summed, with a zero for a byte missing at the end (R140,
R147). -/
def wordSum (p : List Byte) : Nat :=
  ∑ j ∈ Finset.range ((p.length + 1) / 2),
    ((p.getD (2 * j) 0).toNat + 256 * (p.getD (2 * j + 1) 0).toNat)

/-- What a payload byte counts for at position `i`: its lane's weight (R140). -/
def laneWeight (i : Nat) : Nat := if i % 2 = 1 then 256 else 1

/-- The bytes of a payload summed, each with its lane's weight (R140). -/
def laneSum (p : List Byte) : Nat :=
  ∑ i ∈ Finset.range p.length, (p.getD i 0).toNat * laneWeight i

theorem laneWeight_cases (i : Nat) : laneWeight i = 1 ∨ laneWeight i = 256 :=
  (ite_eq_or_eq (i % 2 = 1) 256 1).symm

@[simp] theorem laneWeight_add_two (i : Nat) : laneWeight (i + 2) = laneWeight i := by
  rw [laneWeight, Nat.add_mod_right, laneWeight]

theorem wordSum_cons_cons (b0 b1 : Byte) (p : List Byte) :
    wordSum (b0 :: b1 :: p) = b0.toNat + 256 * b1.toNat + wordSum p := by
  have hlen : ((b0 :: b1 :: p).length + 1) / 2 = (p.length + 1) / 2 + 1 := by
    simp only [List.length_cons]
    omega
  rw [wordSum, hlen, Finset.sum_range_succ', Nat.add_comm]
  rfl

theorem laneSum_cons_cons (b0 b1 : Byte) (p : List Byte) :
    laneSum (b0 :: b1 :: p) = b0.toNat + 256 * b1.toNat + laneSum p := by
  have htail :
      ∑ i ∈ Finset.range p.length, (p.getD i 0).toNat * laneWeight (i + 2) = laneSum p := by
    simp only [laneWeight_add_two, laneSum]
  calc laneSum (b0 :: b1 :: p)
      = laneSum p + b1.toNat * 256 + b0.toNat * 1 := by
        rw [← htail]
        exact (Finset.sum_range_succ' ..).trans
          (congrArg (· + b0.toNat * 1) (Finset.sum_range_succ' ..))
    _ = b0.toNat + 256 * b1.toNat + laneSum p := by omega

/-- Both sums count the first two bytes alike, so they agree (R140). -/
theorem wordSum_eq_laneSum (p : List Byte) : wordSum p = laneSum p := by
  induction p using sumWords.induct with
  | case1 => rfl
  | case2 b => simp [wordSum, laneSum, laneWeight]
  | case3 b0 b1 p ih => rw [wordSum_cons_cons, laneSum_cons_cons, ih]

theorem toNat_sumWords (p : List Byte) : (sumWords p).toNat = laneSum p % 2 ^ 16 := by
  induction p using sumWords.induct with
  | case1 => rfl
  | case2 b => simp [sumWords, laneSum, laneWeight]
  | case3 b0 b1 p ih =>
    rw [sumWords, BitVec.toNat_add, ih, half, toNat_append_byte, laneSum_cons_cons]
    omega

/-- `Checksum(p)` as a number (R140). -/
theorem toNat_checksum (p : List Byte) :
    (checksum p).toNat = (0xB58C + laneSum p) % 2 ^ 16 := by
  rw [checksum, BitVec.toNat_add, toNat_sumWords, Nat.add_mod_mod]
  rfl

/-- Settles O49: the number is the lane sum, and the word sum agrees with it. -/
theorem checksumIsWordSumAndLaneSum : Obligations.ChecksumIsWordSumAndLaneSum := by
  intro p
  have hword : (checksum p).toNat = (0xB58C + wordSum p) % 2 ^ 16 := by
    rw [wordSum_eq_laneSum, toNat_checksum]
  exact ⟨hword, toNat_checksum p⟩

/-! ### Changed bytes -/

/-- Replacing byte `i` exchanges its term of the lane sum for the new byte's (R146). -/
theorem laneSum_set {p : List Byte} {i : Nat} {c : Byte} (b : Byte) (hc : p[i]? = some c) :
    laneSum (p.set i b) + c.toNat * laneWeight i = laneSum p + b.toNat * laneWeight i := by
  have hi : i < p.length := (List.getElem?_eq_some_iff.mp hc).1
  have hmem : i ∈ Finset.range p.length := Finset.mem_range.mpr hi
  have hold : p.getD i 0 = c := by rw [List.getD_eq_getElem?_getD, hc, Option.getD_some]
  have hnew : (p.set i b).getD i 0 = b := by simp [hi]
  have hother : ∀ j ∈ (Finset.range p.length).erase i,
      ((p.set i b).getD j 0).toNat * laneWeight j = (p.getD j 0).toNat * laneWeight j := by
    intro j hj
    have hne : i ≠ j := (Finset.ne_of_mem_erase hj).symm
    simp [hne]
  rw [laneSum, laneSum, List.length_set, ← Finset.add_sum_erase _ _ hmem,
    ← Finset.add_sum_erase _ _ hmem, Finset.sum_congr rfl hother, hold, hnew]
  omega

/-- Two terms of one lane differ by less than 2^16, so the change of one byte shows (R146). -/
theorem checksum_set_ne {p : List Byte} {i : Nat} {b c : Byte} (hc : p[i]? = some c)
    (hne : b ≠ c) : checksum (p.set i b) ≠ checksum p := by
  intro heq
  have hmod := congrArg BitVec.toNat heq
  rw [toNat_checksum, toNat_checksum] at hmod
  have hset := laneSum_set b hc
  have hbytes : b.toNat ≠ c.toNat := fun e => hne (BitVec.eq_of_toNat_eq e)
  have hb256 := b.isLt
  have hc256 := c.isLt
  obtain hw | hw := laneWeight_cases i <;> rw [hw] at hset <;> omega

/-- One more at byte 0 and one less at byte 2, in the same lane, cancel (R146). -/
theorem checksum_shift_one {p0 p1 p2 : Byte} {rest : List Byte} (h0 : p0 ≠ 0xFF) (h2 : p2 ≠ 0x00) :
    checksum ((p0 + 1) :: p1 :: (p2 - 1) :: rest) = checksum (p0 :: p1 :: p2 :: rest) := by
  have hadd : laneSum ((p0 + 1) :: p1 :: p2 :: rest) + p0.toNat * 1 =
      laneSum (p0 :: p1 :: p2 :: rest) + (p0 + 1).toNat * 1 :=
    laneSum_set (p := p0 :: p1 :: p2 :: rest) (i := 0) (p0 + 1) rfl
  have hsub : laneSum ((p0 + 1) :: p1 :: (p2 - 1) :: rest) + p2.toNat * 1 =
      laneSum ((p0 + 1) :: p1 :: p2 :: rest) + (p2 - 1).toNat * 1 :=
    laneSum_set (p := (p0 + 1) :: p1 :: p2 :: rest) (i := 2) (p2 - 1) rfl
  have hinc : (p0 + 1).toNat = p0.toNat + 1 := by bv_omega
  have hdec : (p2 - 1).toNat + 1 = p2.toNat := by bv_omega
  apply BitVec.eq_of_toNat_eq
  rw [toNat_checksum, toNat_checksum]
  omega

/-- Settles O50: one change shows, two in one lane can cancel. -/
theorem checksumSeesOneByteNotTwo : Obligations.ChecksumSeesOneByteNotTwo :=
  ⟨fun _ _ _ _ hc hne => checksum_set_ne hc hne, fun _ _ _ _ h0 h2 => checksum_shift_one h0 h2⟩

end Sys2Proof.Machine
end

section
/-! Proofs for 43_checksum.md: PAY_STEP and VALIDATE case by case, and the two host commands on the
accumulator under the interlock. -/

namespace Sys2Proof.Machine

/-! ### Micro-operations -/

/-- PAY_STEP after the last payload byte tests nothing else (R142). -/
theorem execPayStep_at_payloadEnd {s : State} (hdone : s.payIdx = s.hdrDsize) :
    execPayStep s = .next { s with fsm := .validating } :=
  if_pos hdone

/-- Settles O15: the three cases of R142, one lemma each, and the lane by parity. -/
theorem payStepFinishesTruncatesOrAdds : Obligations.PayStepFinishesTruncatesOrAdds := by
  refine ⟨rfl, fun s => execPayStep_at_payloadEnd,
    fun s bs hs hp hend => execPayStep_at_end hs hend hp, fun s bs b hs hp hb => ?_⟩
  rw [← laneWord_eq]
  exact execPayStep_at_byte hs hb hp

theorem compareChecksum_of_mismatch {s : State} (h : s.acc ≠ s.hdrDcsum) :
    compareChecksum s = { s with csumErr := true } :=
  if_pos h

theorem compareChecksum_of_match {s : State} (h : s.acc = s.hdrDcsum) : compareChecksum s = s :=
  if_neg (not_not_intro h)

/-- Settles O16: the comparison decides CSUM_ERR and not where the scan goes. -/
theorem validateRecordsMismatch : Obligations.ValidateRecordsMismatch := by
  have hexec (s : State) : exec .validate s = .next { compareChecksum s with fsm := .emitting } := rfl
  refine ⟨rfl, fun s => ⟨fun hne => ?_, fun heq => ?_⟩⟩
  · rw [hexec, compareChecksum_of_mismatch hne]
  · rw [hexec, compareChecksum_of_match heq]

/-! ### Commands -/

/-- With BUSY = 1 a command is rejected (R181). -/
theorem unlessBusy_of_busy {s : State} {f : State → Result} (h : busy s = true) :
    unlessBusy s f = .next (setCmdErr s) :=
  if_pos h

theorem execCsumSeed_of_busy {s : State} (h : busy s = true) :
    execCsumSeed s = .next (setCmdErr s) :=
  unlessBusy_of_busy h

theorem execCsumSeed_of_not_busy {s : State} (h : busy s = false) :
    execCsumSeed s = .next { s with acc := Config.seed } :=
  unlessBusy_of_not_busy h

/-- Settles O22: the interlock, and the seed of R7. -/
theorem csumSeedSeedsAccumulator : Obligations.CsumSeedSeedsAccumulator :=
  ⟨rfl, fun _ => execCsumSeed_of_busy, fun _ => execCsumSeed_of_not_busy⟩

/-- The 16-bit addition of ACC is addition mod 2^16 (R146). -/
theorem addAcc_eq (w : Half) (s : State) :
    addAcc w s = { s with acc := BitVec.ofNat 16 ((s.acc.toNat + w.toNat) % 2 ^ 16) } := by
  have hsum : s.acc + w = BitVec.ofNat 16 ((s.acc.toNat + w.toNat) % 2 ^ 16) := by
    rw [← BitVec.toNat_add, BitVec.ofNat_toNat, BitVec.setWidth_eq]
  rw [addAcc, hsum]

theorem execCsumWord_of_busy {s : State} (h : busy s = true) :
    execCsumWord s = .next (setCmdErr s) :=
  unlessBusy_of_busy h

theorem execCsumWord_of_not_busy {s : State} (h : busy s = false) :
    execCsumWord s = .next (addAcc s.csumData s) :=
  unlessBusy_of_not_busy h

/-- Settles O23: the interlock, and the addition written out. -/
theorem csumWordAddsOperand : Obligations.CsumWordAddsOperand := by
  refine ⟨rfl, fun s => execCsumWord_of_busy, fun s hb => ?_⟩
  rw [← addAcc_eq]
  exact execCsumWord_of_not_busy hb

end Sys2Proof.Machine
end

section
/-! Proofs for 44_record_index.md: EMIT's two outcomes, and which stops give a result. -/

namespace Sys2Proof.Machine

/-! ### EMIT -/

/-- The append with R162's predicate and R160's descriptor written out. -/
theorem appendSelected_written_out (n : Nat) (s : State) :
    appendSelected n s = { s with
      records := if s.latFrom ≤ n ∧ (n - s.latFrom) % s.latBy = 0
        then s.records ++ [⟨s.payStart, s.hdrDsize, s.hdrId⟩] else s.records } := by
  simp only [appendSelected_eq, selected_iff, currentRecord]

/-- Settles O17: the limit decides between the two outcomes of R161. -/
theorem emitCountsSelectsAndStops : Obligations.EmitCountsSelectsAndStops := by
  refine ⟨rfl, fun s n recs hby hn hrecs => ?_⟩
  subst hn hrecs
  have hstride : s.latBy ≠ 0 := Nat.one_le_iff_ne_zero.mp hby
  refine ⟨fun hlimit => (execEmit_of_limit hstride hlimit).trans ?_,
    fun hmore => (execEmit_of_more hstride hmore).trans ?_⟩
  · rw [appendSelected_written_out]
    rfl
  · rw [appendSelected_written_out]

/-! ### Stops with a result -/

/-- An instruction leaves RESULT_VALID, clears it, or is a StopDone: HDR_STEP's at the clean end,
PAY_STEP's at a truncation, EMIT's at the limit (R120, R142, R161, R203). -/
theorem exec_resultValid {i : Instr} {s t : State} (h : exec i s = .next t) :
    t.resultValid = s.resultValid ∨ t.resultValid = false ∨
      ∃ u, t = stopDone u ∧
        (i = .hdrStep ∧ u = s ∨ i = .payStep ∧ u = setTrunc s ∨
          i = .emit ∧ u = appendSelected (s.recCount.toNat + 1)
            { s with recCount := BitVec.ofNat 32 (s.recCount.toNat + 1) }) := by
  cases i with
  | hdr10 hd | hdr12 hd | nop => cases h; exact .inl rfl
  | start =>
    obtain ⟨-, rfl⟩ | ⟨-, h⟩ := unlessBusy_next h
    · exact .inl rfl
    · obtain ⟨e, -, rfl⟩ | ⟨bs, -, -, -, -, -, rfl⟩ := startScan_next h <;> exact .inr (.inl rfl)
  | clear =>
    obtain ⟨-, rfl⟩ | ⟨-, rfl⟩ := execClear_next h
    · exact .inl rfl
    · exact .inr (.inl rfl)
  | csumSeed => obtain ⟨-, rfl⟩ | ⟨-, rfl⟩ := execCsumSeed_next h <;> exact .inl rfl
  | csumWord => obtain ⟨-, rfl⟩ | ⟨-, rfl⟩ := execCsumWord_next h <;> exact .inl rfl
  | seekStep =>
    obtain ⟨bs, -, ⟨-, rfl⟩ | ⟨b, -, -, ⟨-, rfl⟩ | ⟨-, rfl⟩⟩⟩ := execSeekStep_next h
    · exact .inr (.inl rfl)
    · exact .inl rfl
    · exact .inl rfl
  | hdrStep =>
    obtain ⟨bs, -, ⟨-, ⟨-, rfl⟩ | ⟨-, rfl⟩⟩ | ⟨b, -, -, u, rfl, hbyte⟩⟩ := execHdrStep_next h
    · exact .inr (.inr ⟨s, rfl, .inl ⟨rfl, rfl⟩⟩)
    · exact .inr (.inl rfl)
    obtain ⟨-, -, rfl⟩ | ⟨-, -, rfl⟩ | ⟨-, -, rfl⟩ | ⟨-, -, rfl⟩ | ⟨-, l, -, hlane⟩ := hbyte
    · exact .inr (.inl rfl)
    · exact .inl rfl
    · exact .inr (.inl rfl)
    · exact .inl rfl
    · obtain ⟨-, rfl⟩ | ⟨-, rfl⟩ := hlane <;> exact .inl (writeLane_resultValid l b _)
  | payStep =>
    obtain ⟨-, rfl⟩ | ⟨-, bs, -, ⟨-, rfl⟩ | ⟨b, -, -, rfl⟩⟩ := execPayStep_next h
    · exact .inl rfl
    · exact .inr (.inr ⟨setTrunc s, rfl, .inr (.inl ⟨rfl, rfl⟩)⟩)
    · exact .inl rfl
  | validate =>
    cases h
    exact .inl (compareChecksum_resultValid s)
  | emit =>
    obtain ⟨-, u, hu, ⟨-, -, rfl⟩ | ⟨-, rfl⟩⟩ := execEmit_next h
    · exact .inr (.inr ⟨u, rfl, .inr (.inr ⟨rfl, hu⟩)⟩)
    · exact .inl ((congrArg (·.resultValid) hu).trans (appendSelected_resultValid _ _))

/-- EMIT keeps the records that stand (R29, R64). -/
theorem appendSelected_records_append (n : Nat) (s : State) :
    ∃ more, (appendSelected n s).records = s.records ++ more := by
  rw [appendSelected_records]
  split
  · exact ⟨_, rfl⟩
  · exact ⟨[], (List.append_nil _).symm⟩

/-- Settles O27: StopDone keeps what the stopping instruction left. -/
theorem resultStopKeepsRecords : Obligations.ResultStopKeepsRecords := by
  intro i s t hs h ht
  have keeps_all : ∃ more, s.records = s.records ++ more := ⟨[], (List.append_nil _).symm⟩
  obtain e | e | ⟨u, rfl, ⟨rfl, rfl⟩ | ⟨rfl, rfl⟩ | ⟨rfl, rfl⟩⟩ := exec_resultValid h
  · exact absurd ((e.trans hs).symm.trans ht) Bool.false_ne_true
  · exact absurd (e.symm.trans ht) Bool.false_ne_true
  · exact ⟨.inl rfl, rfl, rfl, rfl, rfl, keeps_all, fun _ => rfl, by simp⟩
  · exact ⟨.inr (.inl rfl), rfl, rfl, rfl, rfl, keeps_all, fun _ => rfl, by simp⟩
  · exact ⟨.inr (.inr rfl), rfl, rfl, rfl, appendSelected_csumErr _ _,
      appendSelected_records_append _ _, fun hne => absurd rfl hne, by simp⟩

end Sys2Proof.Machine
end

section
/-! Proofs for 44_record_index.md: after every step RECORDS has one descriptor for each selected
decoded record. A step leaves the index as it is, empties it with the count, or is EMIT. -/

namespace Sys2Proof.Machine

/-! ### The count of R162 -/

theorem selectedCount_zero (first stride : Nat) : selectedCount first stride 0 = 0 := rfl

/-- One more decoded record counts when it is selected (R161). -/
theorem selectedCount_succ (first stride n : Nat) :
    selectedCount first stride (n + 1) =
      selectedCount first stride n + if selected first stride (n + 1) then 1 else 0 := by
  simp only [selectedCount, List.range_succ, List.filter_append, List.length_append,
    List.filter_singleton]
  cases selected first stride (n + 1) <;> rfl

/-! ### The index -/

/-- What the count of selected records depends on. -/
def indexPart (s : State) := (s.records, s.latFrom, s.latBy, s.recCount)

theorem indexPart_writeLane (l : HeaderLane) (b : Byte) (s : State) :
    indexPart (writeLane l b s) = indexPart s := by
  cases l <;> rfl

/-- A step of the busy engine that leaves the index keeps its count, also where it stops with a
result (R165). -/
theorem RecordsAreSelection.of_busy {s t : State} (h : RecordsAreSelection s)
    (hb : busy s = true) (e : indexPart t = indexPart s) : RecordsAreSelection t := by
  simp only [indexPart, Prod.mk.injEq] at e
  obtain ⟨hrecs, hfrom, hby, hcount⟩ := e
  intro _
  rw [hrecs, hfrom, hby, hcount]
  exact h (.inl hb)

/-- What a scan view hides does not matter to the index. -/
theorem RecordsAreSelection.of_scanView_eq {s t : State} (h : RecordsAreSelection s)
    (e : scanView t = scanView s) : RecordsAreSelection t := by
  have hview : RecordsAreSelection (scanView s) := h
  rw [← e] at hview
  exact hview

/-- With BUSY = 0 and no result nothing is asked of RECORDS. -/
theorem recordsAreSelection_of_no_result {s : State} (hb : busy s = false)
    (hr : s.resultValid = false) : RecordsAreSelection s := by
  intro h
  simp [hb, hr] at h

theorem recordsAreSelection_stopFatal (e : FatalError) (s : State) :
    RecordsAreSelection (stopFatal e s) :=
  recordsAreSelection_of_no_result (busy_stopFatal e s) rfl

/-! ### Micro-operations -/

theorem execSeekStep_keeps_recordsAreSelection {s t : State} (h : RecordsAreSelection s)
    (hb : busy s = true) (hx : execSeekStep s = .next t) : RecordsAreSelection t := by
  obtain ⟨bs, -, ⟨-, rfl⟩ | ⟨b, -, -, ⟨-, rfl⟩ | ⟨-, rfl⟩⟩⟩ := execSeekStep_next hx
  · exact recordsAreSelection_stopFatal _ _
  · exact h.of_busy hb rfl
  · exact h.of_busy hb rfl

theorem execHdrStep_keeps_recordsAreSelection {s t : State} (h : RecordsAreSelection s)
    (hb : busy s = true) (hx : execHdrStep s = .next t) : RecordsAreSelection t := by
  obtain ⟨bs, -, ⟨-, ⟨-, rfl⟩ | ⟨-, rfl⟩⟩ | ⟨b, -, -, u, rfl, hbyte⟩⟩ := execHdrStep_next hx
  · exact h.of_busy hb rfl
  · exact recordsAreSelection_stopFatal _ _
  obtain ⟨-, -, rfl⟩ | ⟨-, -, rfl⟩ | ⟨-, -, rfl⟩ | ⟨-, -, rfl⟩ | ⟨-, l, -, hlane⟩ := hbyte
  · exact recordsAreSelection_stopFatal _ _
  · exact h.of_busy hb rfl
  · exact recordsAreSelection_stopFatal _ _
  · exact h.of_busy hb rfl
  · obtain ⟨-, rfl⟩ | ⟨-, rfl⟩ := hlane <;> exact h.of_busy hb (indexPart_writeLane l b _)

theorem execPayStep_keeps_recordsAreSelection {s t : State} (h : RecordsAreSelection s)
    (hb : busy s = true) (hx : execPayStep s = .next t) : RecordsAreSelection t := by
  obtain ⟨-, rfl⟩ | ⟨-, bs, -, ⟨-, rfl⟩ | ⟨b, -, -, rfl⟩⟩ := execPayStep_next hx <;>
    exact h.of_busy hb rfl

theorem execValidate_keeps_recordsAreSelection {s t : State} (h : RecordsAreSelection s)
    (hb : busy s = true) (hx : execValidate s = .next t) : RecordsAreSelection t := by
  cases hx
  rw [compareChecksum_eq]
  exact h.of_busy hb rfl

/-- EMIT adds one to the count of selected records exactly when it appends (R161). -/
theorem length_appendSelected_records {s : State} {n : Nat}
    (hlen : s.records.length = selectedCount s.latFrom s.latBy n) :
    (appendSelected (n + 1) s).records.length = selectedCount s.latFrom s.latBy (n + 1) := by
  rw [selectedCount_succ, appendSelected_records, ← hlen]
  split
  · exact List.length_append
  · rfl

/-- EMIT, where REC_COUNT does not wrap (R28): it stops or goes on with the index as long as the
count. -/
theorem execEmit_keeps_recordsAreSelection {s t : State} (h : Inv s)
    (hsel : RecordsAreSelection s) (hf : s.fsm = .emitting) (hx : execEmit s = .next t) :
    RecordsAreSelection t := by
  have hphase : payloadPhase s = true := by simp [payloadPhase, hf]
  obtain ⟨-, hi, hc⟩ := h.payload hphase
  obtain ⟨-, u, hu, hstop⟩ := execEmit_next hx
  have hcount := (indexed_appendSelected hi hc (h.payloadDone (.inr hf)) hu).1
  have hlen : u.records.length = selectedCount u.latFrom u.latBy u.recCount.toNat := by
    rw [hcount, hu, appendSelected_latFrom, appendSelected_latBy]
    exact length_appendSelected_records (hsel (.inl (busy_of_payloadPhase hphase)))
  obtain ⟨-, -, rfl⟩ | ⟨-, rfl⟩ := hstop <;> exact fun _ => hlen

/-! ### Turns -/

theorem engineTurn_keeps_recordsAreSelection {s t : State} (h : Inv s)
    (hsel : RecordsAreSelection s) (hx : engineTurn s = .next t) : RecordsAreSelection t := by
  obtain rfl | ⟨hf, hx⟩ | ⟨hf, hx⟩ | ⟨hf, hx⟩ | ⟨hf, hx⟩ | ⟨hf, hx⟩ := engineTurn_next hx
  · exact hsel
  · exact execSeekStep_keeps_recordsAreSelection hsel (by simp [busy_iff, hf]) hx
  · exact execHdrStep_keeps_recordsAreSelection hsel (by simp [busy_iff, hf]) hx
  · exact execPayStep_keeps_recordsAreSelection hsel (by simp [busy_iff, hf]) hx
  · exact execValidate_keeps_recordsAreSelection hsel (by simp [busy_iff, hf]) hx
  · exact execEmit_keeps_recordsAreSelection h hsel hf hx

theorem engineHeaderTurn_keeps_recordsAreSelection {s t : State} (h : Inv s)
    (hsel : RecordsAreSelection s) (hx : engineHeaderTurn s = .next t) :
    RecordsAreSelection t := by
  obtain ⟨bs, i, rest, hf, -, -, hd, hx⟩ | hx := engineHeaderTurn_next hx
  · have hb : busy s = true := by simp [busy_iff, hf]
    obtain ⟨hdr, -, -, ⟨rfl, -⟩ | ⟨rfl, -⟩⟩ := decodeHeader_ok hd <;> cases hx <;>
      exact hsel.of_busy hb rfl
  · exact engineTurn_keeps_recordsAreSelection h hsel hx

/-- START and CLEAR empty the index and the count together, and no other command touches them (R181
to R185). -/
theorem command_keeps_recordsAreSelection {s t : State} {w : Word} {i : Instr}
    (hsel : RecordsAreSelection s) (hw : decodeCommand w = .ok i) (hx : exec i s = .next t) :
    RecordsAreSelection t := by
  have of_rejected : RecordsAreSelection (setCmdErr s) := hsel.of_scanView_eq rfl
  obtain ⟨-, rfl⟩ | ⟨-, rfl⟩ | ⟨-, rfl⟩ | ⟨-, rfl⟩ | ⟨-, rfl⟩ := decodeCommand_ok hw
  · cases hx
    exact hsel
  · obtain ⟨-, rfl⟩ | ⟨-, hx⟩ := unlessBusy_next hx
    · exact of_rejected
    · obtain ⟨e, -, rfl⟩ | ⟨bs, -, -, -, -, -, rfl⟩ := startScan_next hx
      · exact recordsAreSelection_stopFatal e _
      · exact fun _ => (selectedCount_zero _ _).symm
  · obtain ⟨-, rfl⟩ | ⟨-, rfl⟩ := execClear_next hx
    · exact of_rejected
    · exact recordsAreSelection_of_no_result rfl rfl
  · obtain ⟨-, rfl⟩ | ⟨-, rfl⟩ := execCsumSeed_next hx
    · exact of_rejected
    · exact hsel
  · obtain ⟨-, rfl⟩ | ⟨-, rfl⟩ := execCsumWord_next hx
    · exact of_rejected
    · exact hsel

theorem setSource_keeps_recordsAreSelection {s t : State} {src : Source}
    (hsel : RecordsAreSelection s) (hx : setSource src s = .next t) : RecordsAreSelection t := by
  obtain ⟨-, rfl⟩ := setSource_next hx
  exact hsel

theorem takeTurn_keeps_recordsAreSelection {s t : State} (h : Inv s)
    (hsel : RecordsAreSelection s) (u : Turn) (hx : takeTurn u s = .next t) :
    RecordsAreSelection t := by
  cases u with
  | engine => exact engineTurn_keeps_recordsAreSelection h hsel hx
  | engineHeader => exact engineHeaderTurn_keeps_recordsAreSelection h hsel hx
  | read p n =>
    obtain ⟨v, rfl⟩ := hostRead_next hx
    exact hsel.of_scanView_eq rfl
  | write p n v =>
    obtain ⟨i, hw, hx⟩ | rfl | ⟨r, rfl⟩ | rfl := hostWrite_next hx
    · exact command_keeps_recordsAreSelection hsel hw hx
    · exact hsel.of_scanView_eq rfl
    · exact hsel.of_scanView_eq (scanView_storeReg r v s)
    · exact hsel
  | attach bs => exact setSource_keeps_recordsAreSelection hsel hx
  | detach => exact setSource_keeps_recordsAreSelection hsel hx
  | wait =>
    cases hx
    exact hsel.of_scanView_eq (scanView_pollStatus s)
  | reset =>
    cases hx
    exact recordsAreSelection_of_no_result rfl rfl

/-- Settles O36: each turn keeps it, and EMIT is the one that counts a record. -/
theorem stepKeepsSelectionCount : Obligations.StepKeepsSelectionCount := by
  intro s t h hsel hx
  unfold step nextTurn at hx
  split at hx
  · exact engineTurn_keeps_recordsAreSelection h hsel hx
  · exact takeTurn_keeps_recordsAreSelection (h.of_scanView_eq (t := dropTurn s) rfl)
      (hsel.of_scanView_eq (t := dropTurn s) rfl) _ hx

end Sys2Proof.Machine
end

section
/-! Proofs for 45_scan_control.md: a scan over whole frames counted in Engine steps. It is followed
to its last step but one, where the engine is still busy; every earlier state is then busy too, for
an engine that is not busy stays so. -/

namespace Sys2Proof.Machine

/-! ### Busy up to a step -/

/-- A run that answers has answered after each number of its steps. -/
theorem engineRun_split {m n : Nat} {s t : State} (h : engineRun (m + n) s = .next t) :
    ∃ u, engineRun m s = .next u ∧ engineRun n u = .next t := by
  induction m generalizing s with
  | zero => exact ⟨s, rfl, by rwa [Nat.zero_add] at h⟩
  | succ m ih =>
    rw [Nat.add_right_comm] at h
    cases hs : engineTurn s with
    | next s' =>
      obtain ⟨u, hu, ht⟩ := ih ((engineRun_succ hs).symm.trans h)
      exact ⟨u, (engineRun_succ hs).trans hu, ht⟩
    | fault f | refused r => simp only [engineRun, hs] at h; cases h

/-- An engine that is busy after a run was busy all along it (R187, R215). -/
theorem engineRun_busy_of_le {k m : Nat} {s t : State} (hk : k ≤ m)
    (h : engineRun m s = .next t) (hb : busy t = true) :
    ∃ u, engineRun k s = .next u ∧ busy u = true := by
  obtain ⟨n, rfl⟩ := Nat.exists_eq_add_of_le hk
  obtain ⟨u, hu, ht⟩ := engineRun_split h
  refine ⟨u, hu, ?_⟩
  by_contra hub
  have hstays : engineRun n u = .next u := engineRun_of_not_busy (Bool.eq_false_iff.mpr hub) n
  obtain rfl := Host.Outcome.next.inj (hstays.symm.trans ht)
  exact hub hb

/-! ### The frames and the stop -/

/-- The header decoder is about to read byte 0 of a header and finds no byte in `bs` (R120). -/
structure AtCleanEnd (bs : List Byte) (s : State) : Prop where
  fsm : s.fsm = .decHdr
  hdrIdx : s.hdrIdx = 0
  src : s.src = some bs
  ended : bs.length ≤ s.cursor

theorem busy_of_atCleanEnd {bs : List Byte} {s : State} (h : AtCleanEnd bs s) : busy s = true :=
  (busy_iff s).mpr (by simp [h.fsm])

/-- The next Engine step is the clean end of the scan (R120, R203). -/
theorem engineTurn_of_atCleanEnd {bs : List Byte} {s : State} (h : AtCleanEnd bs s) :
    engineTurn s = .next (stopDone s) :=
  engineTurn_of_cleanEnd h.fsm h.hdrIdx h.src h.ended

/-- Without a limit, whole frames to the end of the stream take a step for each of their bytes and
three for each frame, and the scan has not stopped then (R126, R189). -/
theorem engineRun_frames_cleanEnd {fs : List Frame} {s : State} {bs : List Byte}
    (hf : s.fsm = .decHdr) (h0 : s.hdrIdx = 0) (hs : s.src = some bs)
    (hx : bs.drop s.cursor = streamBytes fs) (hby : 1 ≤ s.latBy) (hto : s.latTo = 0)
    (hwf : ∀ f ∈ fs, frameWf f = true) :
    ∃ t, engineRun ((streamBytes fs).length + 3 * fs.length) s = .next t ∧ AtCleanEnd bs t := by
  induction fs generalizing s with
  | nil => exact ⟨s, rfl, hf, h0, hs, List.drop_eq_nil_iff.mp hx⟩
  | cons f fs ih =>
    obtain ⟨h, p⟩ := f
    obtain ⟨hw, hp⟩ := (frameWf_iff h p).mp (hwf _ List.mem_cons_self)
    have hframe : bs.drop s.cursor = headerBytes h ++ (p ++ streamBytes fs) :=
      hx.trans (streamBytes_cons h p fs)
    obtain ⟨hsrc, hcursor, -, -, hto', hby', -, -⟩ := frameIndexed_fields h p s
    have hrest : bs.drop (frameIndexed h p s).cursor = streamBytes fs := by
      rw [hcursor, ← length_headerBytes hw]
      exact drop_add_of_eq_append (drop_add_of_eq_append hframe)
    obtain ⟨t, hrun, hend⟩ := ih (s := frameIndexed h p s) rfl rfl (hsrc.trans hs) hrest
      (hby'.symm ▸ hby) (hto'.trans hto) (List.forall_mem_of_forall_mem_cons hwf)
    have hsteps : (streamBytes (⟨h, p⟩ :: fs)).length + 3 * (fs.length + 1) =
        (h.size.toNat + p.length + 3) + ((streamBytes fs).length + 3 * fs.length) := by
      rw [length_streamBytes_cons hw]
      omega
    refine ⟨t, ?_, hend⟩
    rw [List.length_cons, hsteps,
      engineRun_add _ (engineRun_frame_unlimited hf h0 hs hw hframe hp hby hto), hrun]

/-- Where START came to seek, the bounds were legal and are latched (R183). -/
theorem startScan_seeking {s t : State} (hx : startScan s = .next t) (hf : t.fsm = .seeking) :
    t = startedScan s ∧ 0 < s.cfgBy.toInt := by
  obtain ⟨e, -, rfl⟩ | ⟨bs, -, -, -, -, hby, rfl⟩ := startScan_next hx
  · cases hf
  · exact ⟨rfl, hby⟩

/-- From its START to the step before its stop, a scan without limit over whole frames takes one
step to find the first header and then those of the frames (R113, R189). -/
theorem engineRun_started_cleanEnd {s : State} {fs : List Frame} (hne : fs ≠ [])
    (hwf : ∀ f ∈ fs, frameWf f = true) (hs : s.src = some (streamBytes fs)) (hto : s.cfgTo = 0)
    (hby : 0 < s.cfgBy.toInt) :
    ∃ t, engineRun (1 + ((streamBytes fs).length + 3 * fs.length)) (startedScan s) = .next t ∧
      AtCleanEnd (streamBytes fs) t := by
  obtain ⟨rest, hsync⟩ := streamBytes_head hne hwf
  have hseek := engineRun_seeking (s := startedScan s) (x := []) rfl hs hsync List.not_mem_nil
  have hlimit : (startedScan s).latTo = 0 := by rw [startedScan, hto]; rfl
  obtain ⟨t, hrun, hend⟩ := engineRun_frames_cleanEnd
    (s := { startedScan s with cursor := 0, hdrIdx := 0, fsm := .decHdr })
    rfl rfl hs rfl (Int.lt_toNat.mpr hby) hlimit hwf
  exact ⟨t, (engineRun_add _ hseek).trans hrun, hend⟩

/-- Settles O56: the engine is busy at the last step but one, and that last step stops the scan. -/
theorem scanOfWholeFramesTakesExactSteps : Obligations.ScanOfWholeFramesTakesExactSteps := by
  intro s s1 fs n hb hne hwf hs hto hstart hseek hn
  obtain ⟨rfl, hby⟩ := startScan_seeking ((unlessBusy_of_not_busy hb).symm.trans hstart) hseek
  obtain ⟨t, hrun, hend⟩ := engineRun_started_cleanEnd hne hwf hs hto hby
  obtain rfl : n = 1 + ((streamBytes fs).length + 3 * fs.length) + 1 := by omega
  refine ⟨fun k hk => engineRun_busy_of_le (Nat.le_of_lt_succ hk) hrun (busy_of_atCleanEnd hend),
    stopDone t, ?_, rfl, rfl⟩
  rw [engineRun_add 1 hrun, engineRun_one, engineTurn_of_atCleanEnd hend]

end Sys2Proof.Machine
end

section
/-! Proofs for 45_scan_control.md: the commands NOP, START and CLEAR, the dispatch of command words
under the interlock of R181, and the transitions of FSM. -/

namespace Sys2Proof.Machine

/-! ### Commands -/

/-- Settles O19: NOP answers the state it was given. -/
theorem nopChangesNothing : Obligations.NopChangesNothing :=
  ⟨rfl, fun _ => rfl⟩

/-- A bound out of its range is the first of START's checks (R183, R205). -/
theorem startScan_of_illegal {s : State}
    (h : s.cfgFrom.toInt ≤ 0 ∨ s.cfgTo.toInt < 0 ∨ s.cfgBy.toInt ≤ 0) :
    startScan s = .next (stopFatal .invalidParameter (clearScan s)) := by
  by_cases hneg : s.cfgFrom.toInt < 0 ∨ s.cfgTo.toInt < 0 ∨ s.cfgBy.toInt < 0
  · exact if_pos hneg
  · have hzero : s.cfgFrom.toInt = 0 ∨ s.cfgBy.toInt = 0 := by omega
    exact (if_neg hneg).trans (if_pos hzero)

/-- With legal bounds and no source START stops with SourceUnavailable (R183, R205). -/
theorem startScan_of_no_source {s : State} (hfrom : 0 < s.cfgFrom.toInt) (hto : 0 ≤ s.cfgTo.toInt)
    (hby : 0 < s.cfgBy.toInt) (hs : s.src = none) :
    startScan s = .next (stopFatal .sourceUnavailable (clearScan s)) := by
  simp only [startScan, hs]
  rw [if_neg (by omega), if_neg (by omega)]

/-- The length of the source is the last of START's checks (R63, R183). -/
theorem startScan_of_tooLong {s : State} {bs : List Byte} (hfrom : 0 < s.cfgFrom.toInt)
    (hto : 0 ≤ s.cfgTo.toInt) (hby : 0 < s.cfgBy.toInt) (hs : s.src = some bs)
    (hlong : Config.posBound ≤ bs.length) : startScan s = .refused .streamTooLong := by
  simp only [startScan, hs]
  rw [if_neg (by omega), if_neg (by omega), if_pos hlong]

/-- A register value that is not negative is the same read as signed and as unsigned (R33). -/
theorem toNat_toInt_of_nonneg {v : Word} (h : 0 ≤ v.toInt) : v.toInt.toNat = v.toNat := by
  rw [BitVec.toInt_eq_toNat_cond] at h ⊢
  split at h <;> omega

theorem execStart_of_busy {s : State} (h : busy s = true) : execStart s = .next (setCmdErr s) :=
  unlessBusy_of_busy h

theorem execStart_of_not_busy {s : State} (h : busy s = false) : execStart s = startScan s :=
  unlessBusy_of_not_busy h

/-- Settles O20: the checks in their order, and the legal bounds read as unsigned. -/
theorem startChecksThenSeeks : Obligations.StartChecksThenSeeks := by
  refine ⟨rfl, fun s => execStart_of_busy, ?_⟩
  rintro s _ hb rfl
  have hexec : exec .start s = startScan s := execStart_of_not_busy hb
  rw [hexec]
  refine ⟨startScan_of_illegal, fun hfrom hto hby => ⟨startScan_of_no_source hfrom hto hby,
    fun bs => startScan_of_tooLong hfrom hto hby, fun bs hs hlen => ?_⟩⟩
  rw [← toNat_toInt_of_pos hfrom, ← toNat_toInt_of_nonneg hto, ← toNat_toInt_of_pos hby]
  exact startScan_of_legal hs hlen hfrom hto hby

theorem execClear_of_busy {s : State} (h : busy s = true) : execClear s = .next (setCmdErr s) :=
  unlessBusy_of_busy h

theorem execClear_of_not_busy {s : State} (h : busy s = false) :
    execClear s = .next { clearScan s with fsm := .idle } :=
  unlessBusy_of_not_busy h

/-- Settles O21: the interlock, and the clearing that CLEAR shares with START. -/
theorem clearReturnsToIdle : Obligations.ClearReturnsToIdle :=
  ⟨rfl, fun _ => execClear_of_busy, fun _ => execClear_of_not_busy⟩

/-- Settles O25: each of the four commands runs under the interlock. -/
theorem busyEngineRejectsCommands : Obligations.BusyEngineRejectsCommands := by
  intro s i hi hb
  simp only [List.mem_cons, List.not_mem_nil, or_false] at hi
  obtain rfl | rfl | rfl | rfl := hi
  · exact execStart_of_busy hb
  · exact execClear_of_busy hb
  · exact execCsumSeed_of_busy hb
  · exact execCsumWord_of_busy hb

/-! ### Command words -/

/-- A whole-word write at offset 0 is a write to CMD (R35, R37). -/
theorem hostWrite_cmd (w : Word) (s : State) :
    hostWrite (.offset 0x00) 4 w s = writeCommand w s :=
  hostWrite_offset rfl (by decide) w s

theorem writeCommand_of_decode {w : Word} {i : Instr} (h : decodeCommand w = .ok i) (s : State) :
    writeCommand w s = exec i s := by
  simp only [writeCommand, h]

/-- A command word from 5 up is illegal in any FSM state (R91, R185). -/
theorem writeCommand_of_illegal {w : Word} (h : 5 ≤ w.toNat) (s : State) :
    writeCommand w s = .next (setCmdErr s) := by
  obtain ⟨-, -, -, -, -, hillegal⟩ := commandWordsSelectFiveCommands
  simp only [writeCommand, hillegal w h, illegalCommand]

/-- The words 1 to 4 are those of the four commands under the interlock (R90). -/
theorem decodeCommand_of_range {w : Word} (h1 : 1 ≤ w.toNat) (h4 : w.toNat ≤ 4) :
    ∃ i ∈ [Instr.start, .clear, .csumSeed, .csumWord], decodeCommand w = .ok i := by
  obtain ⟨-, hstart, hclear, hseed, hword, -⟩ := commandWordsSelectFiveCommands
  have hw : w = 1 ∨ w = 2 ∨ w = 3 ∨ w = 4 := by bv_omega
  obtain rfl | rfl | rfl | rfl := hw
  · exact ⟨_, by simp, hstart⟩
  · exact ⟨_, by simp, hclear⟩
  · exact ⟨_, by simp, hseed⟩
  · exact ⟨_, by simp, hword⟩

/-- Settles O24: the write takes its turn off the list and dispatches on the decoded word. -/
theorem commandWriteDispatch : Obligations.CommandWriteDispatch := by
  rintro s _ w rest hturns rfl
  have hstep : step s = writeCommand w { s with turns := rest } :=
    (step_of_turn hturns).trans (hostWrite_cmd w _)
  obtain ⟨hnop, hstart, hclear, hseed, hword, -⟩ := commandWordsSelectFiveCommands
  rw [hstep]
  refine ⟨?_, fun h => writeCommand_of_illegal h _, fun h1 h4 hb => ?_, ?_, ?_, ?_, ?_⟩
  · rintro rfl
    exact writeCommand_of_decode hnop _
  · obtain ⟨i, hi, hdec⟩ := decodeCommand_of_range h1 h4
    exact (writeCommand_of_decode hdec _).trans (busyEngineRejectsCommands _ i hi hb)
  · rintro rfl -
    exact writeCommand_of_decode hstart _
  · rintro rfl -
    exact writeCommand_of_decode hclear _
  · rintro rfl -
    exact writeCommand_of_decode hseed _
  · rintro rfl -
    exact writeCommand_of_decode hword _

/-! ### IDLE and STOPPED -/

theorem busy_eq_false_iff (s : State) : busy s = false ↔ s.fsm = .idle ∨ s.fsm = .stopped := by
  rw [← Bool.not_eq_true, busy_iff, ← not_or, not_not]

/-- With BUSY = 0 the Engine has no step (R187, R215). -/
theorem engineTurn_of_not_busy {s : State} (h : busy s = false) : engineTurn s = .next s :=
  (engineRun_one s).symm.trans (engineRun_of_not_busy h 1)

/-- Settles O30: in IDLE and STOPPED BUSY is 0. -/
theorem idleEngineKeepsState : Obligations.IdleEngineKeepsState := by
  intro s hf
  have hturn := engineTurn_of_not_busy ((busy_eq_false_iff s).mpr hf)
  exact ⟨hturn, fun h => (step_of_no_turn h).trans hturn⟩

/-! ### Transitions -/

/-- FSM stays, or moves by a row of R186's table that is not a reset. -/
abbrev FsmMoves (a b : Fsm) : Prop :=
  b = a ∨ (a, b) ∈
    [(Fsm.idle, Fsm.seeking), (.idle, .stopped), (.stopped, .seeking), (.stopped, .idle),
     (.seeking, .decHdr), (.seeking, .stopped), (.decHdr, .stopped), (.decHdr, .readPay),
     (.readPay, .validating), (.readPay, .stopped), (.validating, .emitting),
     (.emitting, .stopped), (.emitting, .decHdr)]

/-- A step from the scan state `a` to `b`, for a row from `a` to `b`. -/
theorem FsmMoves.of_row {s t : State} (a b : Fsm) (ha : s.fsm = a) (hb : t.fsm = b)
    (hrow : FsmMoves a b := by decide) : FsmMoves s.fsm t.fsm := by
  rwa [ha, hb]

theorem execSeekStep_fsmMoves {s t : State} (hf : s.fsm = .seeking)
    (hx : execSeekStep s = .next t) : FsmMoves s.fsm t.fsm := by
  obtain ⟨bs, -, ⟨-, rfl⟩ | ⟨b, -, -, ⟨-, rfl⟩ | ⟨-, rfl⟩⟩⟩ := execSeekStep_next hx
  · exact .of_row .seeking .stopped hf rfl
  · exact .of_row .seeking .decHdr hf rfl
  · exact .inl rfl

theorem execHdrStep_fsmMoves {s t : State} (hf : s.fsm = .decHdr)
    (hx : execHdrStep s = .next t) : FsmMoves s.fsm t.fsm := by
  obtain ⟨u, rfl⟩ | ht | ht := execHdrStep_outcome hf hx
  · exact .of_row .decHdr .readPay hf rfl
  · exact .inl (ht.trans hf.symm)
  · exact .of_row .decHdr .stopped hf ht

theorem execPayStep_fsmMoves {s t : State} (hf : s.fsm = .readPay)
    (hx : execPayStep s = .next t) : FsmMoves s.fsm t.fsm := by
  obtain ⟨-, rfl⟩ | ⟨-, bs, -, ⟨-, rfl⟩ | ⟨b, -, -, rfl⟩⟩ := execPayStep_next hx
  · exact .of_row .readPay .validating hf rfl
  · exact .of_row .readPay .stopped hf rfl
  · exact .inl rfl

theorem execValidate_fsmMoves {s t : State} (hf : s.fsm = .validating)
    (hx : execValidate s = .next t) : FsmMoves s.fsm t.fsm := by
  cases hx
  exact .of_row .validating .emitting hf rfl

theorem execEmit_fsmMoves {s t : State} (hf : s.fsm = .emitting)
    (hx : execEmit s = .next t) : FsmMoves s.fsm t.fsm := by
  obtain ⟨-, u, -, ⟨-, -, rfl⟩ | ⟨-, rfl⟩⟩ := execEmit_next hx
  · exact .of_row .emitting .stopped hf rfl
  · exact .of_row .emitting .decHdr hf rfl

theorem engineTurn_fsmMoves {s t : State} (hx : engineTurn s = .next t) :
    FsmMoves s.fsm t.fsm := by
  obtain rfl | ⟨hf, hx⟩ | ⟨hf, hx⟩ | ⟨hf, hx⟩ | ⟨hf, hx⟩ | ⟨hf, hx⟩ := engineTurn_next hx
  · exact .inl rfl
  · exact execSeekStep_fsmMoves hf hx
  · exact execHdrStep_fsmMoves hf hx
  · exact execPayStep_fsmMoves hf hx
  · exact execValidate_fsmMoves hf hx
  · exact execEmit_fsmMoves hf hx

/-- A whole header leads where its HDR_STEPs lead (R124, log 4). -/
theorem engineHeaderTurn_fsmMoves {s t : State} (hx : engineHeaderTurn s = .next t) :
    FsmMoves s.fsm t.fsm := by
  obtain ⟨bs, i, rest, hf, -, -, hd, hx⟩ | hx := engineHeaderTurn_next hx
  · obtain ⟨hdr, -, -, ⟨rfl, -⟩ | ⟨rfl, -⟩⟩ := decodeHeader_ok hd <;> cases hx <;>
      exact .of_row .decHdr .readPay hf rfl
  · exact engineTurn_fsmMoves hx

/-- START with BUSY = 0 comes to STOPPED or to SEEKING (R183). -/
theorem startScan_fsmMoves {s t : State} (hb : busy s = false) (hx : startScan s = .next t) :
    FsmMoves s.fsm t.fsm := by
  have hfrom := (busy_eq_false_iff s).mp hb
  obtain ⟨e, -, rfl⟩ | ⟨bs, -, -, -, -, -, rfl⟩ := startScan_next hx
  · obtain hf | hf := hfrom
    · exact .of_row .idle .stopped hf rfl
    · exact .inl hf.symm
  · obtain hf | hf := hfrom
    · exact .of_row .idle .seeking hf rfl
    · exact .of_row .stopped .seeking hf rfl

/-- CLEAR with BUSY = 0 comes to IDLE (R184). -/
theorem execClear_fsmMoves {s t : State} (hx : execClear s = .next t) : FsmMoves s.fsm t.fsm := by
  obtain ⟨-, rfl⟩ | ⟨hb, rfl⟩ := execClear_next hx
  · exact .inl rfl
  · obtain hf | hf := (busy_eq_false_iff s).mp hb
    · exact .inl hf.symm
    · exact .of_row .stopped .idle hf rfl

/-- START and CLEAR are the commands that move FSM (R181 to R185). -/
theorem command_fsmMoves {s t : State} {w : Word} {i : Instr} (hw : decodeCommand w = .ok i)
    (hx : exec i s = .next t) : FsmMoves s.fsm t.fsm := by
  obtain ⟨-, rfl⟩ | ⟨-, rfl⟩ | ⟨-, rfl⟩ | ⟨-, rfl⟩ | ⟨-, rfl⟩ := decodeCommand_ok hw
  · cases hx
    exact .inl rfl
  · obtain ⟨-, rfl⟩ | ⟨hb, hx⟩ := unlessBusy_next hx
    · exact .inl rfl
    · exact startScan_fsmMoves hb hx
  · exact execClear_fsmMoves hx
  · obtain ⟨-, rfl⟩ | ⟨-, rfl⟩ := execCsumSeed_next hx <;> exact .inl rfl
  · obtain ⟨-, rfl⟩ | ⟨-, rfl⟩ := execCsumWord_next hx <;> exact .inl rfl

/-- The polling of `wait` leaves FSM to the Engine (R94, log 5). -/
theorem pollStatus_fsm (s : State) : (pollStatus s).fsm = s.fsm := by
  have hview := congrArg (fun v : State => v.fsm) (scanView_pollStatus s)
  exact hview

theorem takeTurn_fsmMoves {s t : State} {u : Turn} (hu : u ≠ .reset)
    (hx : takeTurn u s = .next t) : FsmMoves s.fsm t.fsm := by
  cases u with
  | engine => exact engineTurn_fsmMoves hx
  | engineHeader => exact engineHeaderTurn_fsmMoves hx
  | read p n =>
    obtain ⟨v, rfl⟩ := hostRead_next hx
    exact .inl rfl
  | write p n v =>
    obtain ⟨i, hw, hx⟩ | rfl | ⟨r, rfl⟩ | rfl := hostWrite_next hx
    · exact command_fsmMoves hw hx
    · exact .inl rfl
    · exact .inl (storeReg_fsm r v s)
    · exact .inl rfl
  | attach bs =>
    obtain ⟨-, rfl⟩ := setSource_next hx
    exact .inl rfl
  | detach =>
    obtain ⟨-, rfl⟩ := setSource_next hx
    exact .inl rfl
  | wait =>
    cases hx
    exact .inl (pollStatus_fsm s)
  | reset => exact absurd rfl hu

/-- Settles O31: each turn but a reset moves FSM by the table. -/
theorem fsmTransitionsAreTheTable : Obligations.FsmTransitionsAreTheTable := by
  intro s t hx hreset
  cases hturns : s.turns with
  | nil => exact engineTurn_fsmMoves ((step_of_no_turn hturns).symm.trans hx)
  | cons u rest =>
    have hu : u ≠ .reset := by
      rintro rfl
      exact hreset rest hturns
    exact takeTurn_fsmMoves (s := { s with turns := rest }) hu
      ((step_of_turn hturns).symm.trans hx)

end Sys2Proof.Machine
end

section
/-! Proofs for 60_exceptions.md: the six fatal stops of R201, and what each leaves. -/

namespace Sys2Proof.Machine

/-! ### Fatal stops -/

/-- The fatal stops of R201 from a state `s`: the instruction, its error, and the state that StopFatal
is applied to (R110, R120 to R122, R183). -/
inductive FatalStop (s : State) : Instr → FatalError → State → Prop
  | noSyncFound : FatalStop s .seekStep .noSyncFound s
  | truncatedHeader : FatalStop s .hdrStep .truncatedHeader s
  | lostSync (b : Byte) : FatalStop s .hdrStep .lostSync
      (latchHeader ⟨b, 0, 0, 0, 0, 0, 0⟩ { s with cursor := s.cursor + 1, hdrIdx := s.hdrIdx + 1 })
  | invalidHeaderSize (b : Byte) : FatalStop s .hdrStep .invalidHeaderSize
      { s with cursor := s.cursor + 1, hdrIdx := s.hdrIdx + 1, hdrSize := b }
  | invalidParameter : FatalStop s .start .invalidParameter (clearScan s)
  | sourceUnavailable : FatalStop s .start .sourceUnavailable (clearScan s)

theorem FatalStop.keeps_acc {s u : State} {i : Instr} {e : FatalError} (h : FatalStop s i e u) :
    u.acc = s.acc := by
  cases h <;> rfl

/-- START's clearing alone touches the diagnostics before the stop (R183, R202). -/
theorem FatalStop.keeps_diagnostics {s u : State} {i : Instr} {e : FatalError}
    (h : FatalStop s i e u) (hi : i ≠ .start) :
    u.payIdx = s.payIdx ∧ u.recCount = s.recCount ∧ u.cmdErr = s.cmdErr := by
  cases h with
  | noSyncFound | truncatedHeader | lostSync b | invalidHeaderSize b => exact ⟨rfl, rfl, rfl⟩
  | invalidParameter | sourceUnavailable => exact absurd rfl hi

theorem FatalStop.code {s u : State} {i : Instr} {e : FatalError} (h : FatalStop s i e u) :
    i = .seekStep ∧ fatalNumber e = 1 ∨ i = .hdrStep ∧ fatalNumber e = 2 ∨
      i = .hdrStep ∧ fatalNumber e = 3 ∨ i = .start ∧ fatalNumber e = 4 ∨
      i = .start ∧ fatalNumber e = 5 ∨ i = .hdrStep ∧ fatalNumber e = 6 := by
  cases h <;> simp [fatalNumber]

/-- HDR_STEP leaves FATAL_CODE, clears it at the clean end, or is one of its three fatal stops
(R120 to R122). -/
theorem execHdrStep_fatalCode {s t : State} (h : execHdrStep s = .next t) :
    t.fatalCode = s.fatalCode ∨ t.fatalCode = 0 ∨
      ∃ e u, FatalStop s .hdrStep e u ∧ t = stopFatal e u := by
  obtain ⟨bs, -, ⟨-, ⟨-, rfl⟩ | ⟨-, rfl⟩⟩ | ⟨b, -, -, u, rfl, hbyte⟩⟩ := execHdrStep_next h
  · exact .inr (.inl rfl)
  · exact .inr (.inr ⟨_, _, .truncatedHeader, rfl⟩)
  obtain ⟨-, -, rfl⟩ | ⟨-, -, rfl⟩ | ⟨-, -, rfl⟩ | ⟨-, -, rfl⟩ | ⟨-, l, -, hlane⟩ := hbyte
  · exact .inr (.inr ⟨_, _, .lostSync b, rfl⟩)
  · exact .inl rfl
  · exact .inr (.inr ⟨_, _, .invalidHeaderSize b, rfl⟩)
  · exact .inl rfl
  · obtain ⟨-, rfl⟩ | ⟨-, rfl⟩ := hlane <;> exact .inl (writeLane_fatalCode l b _)

/-- START leaves FATAL_CODE while BUSY = 1, clears it where it begins a scan, or is one of its two
fatal stops (R181, R183). -/
theorem execStart_fatalCode {s t : State} (h : execStart s = .next t) :
    t.fatalCode = s.fatalCode ∨ t.fatalCode = 0 ∨
      ∃ e u, FatalStop s .start e u ∧ t = stopFatal e u := by
  obtain ⟨-, rfl⟩ | ⟨-, h⟩ := unlessBusy_next h
  · exact .inl rfl
  obtain ⟨e, rfl | rfl, rfl⟩ | ⟨bs, -, -, -, -, -, rfl⟩ := startScan_next h
  · exact .inr (.inr ⟨_, _, .invalidParameter, rfl⟩)
  · exact .inr (.inr ⟨_, _, .sourceUnavailable, rfl⟩)
  · exact .inr (.inl rfl)

/-- An instruction leaves FATAL_CODE, clears it, or is a StopFatal of R201. -/
theorem exec_fatalCode {i : Instr} {s t : State} (h : exec i s = .next t) :
    t.fatalCode = s.fatalCode ∨ t.fatalCode = 0 ∨
      ∃ e u, FatalStop s i e u ∧ t = stopFatal e u := by
  cases i with
  | hdr10 hd | hdr12 hd | nop => cases h; exact .inl rfl
  | start => exact execStart_fatalCode h
  | clear =>
    obtain ⟨-, rfl⟩ | ⟨-, rfl⟩ := execClear_next h
    · exact .inl rfl
    · exact .inr (.inl rfl)
  | csumSeed => obtain ⟨-, rfl⟩ | ⟨-, rfl⟩ := execCsumSeed_next h <;> exact .inl rfl
  | csumWord => obtain ⟨-, rfl⟩ | ⟨-, rfl⟩ := execCsumWord_next h <;> exact .inl rfl
  | seekStep =>
    obtain ⟨bs, -, ⟨-, rfl⟩ | ⟨b, -, -, ⟨-, rfl⟩ | ⟨-, rfl⟩⟩⟩ := execSeekStep_next h
    · exact .inr (.inr ⟨_, _, .noSyncFound, rfl⟩)
    · exact .inl rfl
    · exact .inl rfl
  | hdrStep => exact execHdrStep_fatalCode h
  | payStep =>
    obtain ⟨-, rfl⟩ | ⟨-, bs, -, ⟨-, rfl⟩ | ⟨b, -, -, rfl⟩⟩ := execPayStep_next h
    · exact .inl rfl
    · exact .inr (.inl rfl)
    · exact .inl rfl
  | validate =>
    cases h
    exact .inl (compareChecksum_fatalCode s)
  | emit =>
    obtain ⟨-, u, rfl, ⟨-, -, rfl⟩ | ⟨-, rfl⟩⟩ := execEmit_next h
    · exact .inr (.inl rfl)
    · exact .inl (appendSelected_fatalCode _ _)

/-- Settles O26: FATAL_CODE becomes nonzero by a StopFatal alone, and what the stop does not write is
what the stopping instruction left. -/
theorem fatalStopLeavesNoResult : Obligations.FatalStopLeavesNoResult := by
  intro i s t hs h ht
  obtain hsame | hzero | ⟨e, u, hstop, rfl⟩ := exec_fatalCode h
  · exact absurd (hsame.trans hs) ht
  · exact absurd hzero ht
  · exact ⟨rfl, rfl, rfl, rfl, rfl, rfl, hstop.keeps_acc, hstop.keeps_diagnostics, hstop.code⟩

end Sys2Proof.Machine
end
